-- ==== Sys2Proof/Word.lean ====
section
/-!
DEFINITION. The word types of the JC-410 and their plainest arithmetic (00_scope.md 5.2, Chapter 12).
-/

namespace Sys2Proof

/-- A byte of a link, or a colour component or index pixel. -/
abbrev Byte := BitVec 8

/-- A frame number, a LayoutNumber, a SceneNumber, a CRC or a set of the sixteen events. -/
abbrev Word16 := BitVec 16

/-- A SET value or a button's Command. -/
abbrev Word32 := BitVec 32

/-- `n` brought into the range `lo..hi`. -/
def clamp (lo hi n : Nat) : Nat := max lo (min hi n)

/-- `n` divided by `d`, rounded up (00_scope.md 5.2, "ceil"). -/
def ceilDiv (n d : Nat) : Nat := (n + (d - 1)) / d

end Sys2Proof
end

