-- ==== Sys2Proof/Syntax.lean ====
section
/-!
DEFINITION. The commands of the JC-410: one constructor per row of spec/opcode_table.json, and the data their
operands are made of. A command is an event of the part; what a segment carries is not an operand of the command that
takes it, because the taking reads the stored segment.
-/

namespace Sys2Proof

/-- The eight header bytes of a segment (12.1), the two-byte fields as numbers. -/
structure Header where
  kind : Byte
  flags : Byte
  length : Word16
  target : Word16
  tag : Byte
  seq : Byte
  deriving DecidableEq, Repr

/-- A colour Y, Cb, Cr (00_scope.md 5.4). -/
structure Colour where
  y : Byte
  cb : Byte
  cr : Byte
  deriving DecidableEq, Repr

/-- A received Video In frame: for each line that carried data-enable, its active pixels from left to right (R138). -/
abbrev VideoFrame := List (List Colour)

/-- One of the changes a frame start makes (R145, "a frame start's own changes"), or the return to LOCKED that makes a
Video In frame start a frame start (R143). -/
inductive FrameChange where
  /-- the pending target is entered (R161) -/
  | pendingTarget
  /-- the return count has reached 4 and the mode becomes LOCKED (R143) -/
  | returnToLocked
  /-- a copying capture completes (R127) -/
  | captureCompletion
  /-- a waiting capture begins copying (R127) -/
  | copyingPhase
  /-- the Back Layout flips (R63, R64) -/
  | flip
  /-- a PATCH in AWAIT_FLIP flips (R94) -/
  | patchFlip
  /-- the head UPDATE is applied (R66) -/
  | update
  /-- the staged copy of a palette goes live (R48) -/
  | palette (p : Fin 8)
  /-- the panel palette's shown copy is brought up to date (R54) -/
  | panelColours
  /-- a running hold's counter falls (R115) -/
  | holdCountdown
  /-- a hold whose counter is 0 ends (R108) -/
  | holdEnd
  /-- Tap A ticks (R119) -/
  | tapA
  /-- Tap B ticks (R72, R134) -/
  | tapB
  /-- a fade ends (R72) -/
  | fadeEnd
  /-- a pan that has reached its last step ends (R134) -/
  | panEnd
  /-- a waiting pan jumps to its end (R134) -/
  | panJump
  /-- a transition takes one step (R130) -/
  | transitionStep
  /-- a transition whose step count has reached its duration completes (R131) -/
  | transitionCompletion
  /-- the drain condition holds once the frame start is made, and STANDBY is entered (R162, R164) -/
  | standbyEntry
  deriving DecidableEq, Repr

/-- The commands. Each constructor is a row of spec/opcode_table.json; LAWS.json names the row. `held` lists the changes
of a frame start that are left to commands of their own following it (log 4). -/
inductive Instr where
  | segmentHeader (h : Header)
  | segmentArrivalComplete (payload : List Byte) (crc : Word16)
  | headerCutShort (received : Nat)
  | arrivalCutShort
  | strayBytes (count : Nat)
  | sceneOpen
  | palette
  | objectFirstFragment
  | objectLaterFragment
  | buttons
  | layout
  | cancel
  | key
  | serveDirectionalKey
  | serveOkKey
  | serveNumberKey
  | serveUnusedKey
  | holdEnd
  | planeReqLive
  | planeReqFreeze
  | planeReqOff
  | planeReqStandby
  | restart
  | eventEnable
  | globalEnable
  | severity
  | tapACode
  | tapBCode
  | tapEnable
  | activateHold
  | lateLimit
  | lead
  | sceneProtect
  | panelProtect
  | internalWidth
  | internalHeight
  | internalRate
  | sceneOriginX
  | sceneOriginY
  | borderColour
  | panelColour
  | panelColour0
  | unknownSetting
  | query
  | clearEvents
  | capture
  | showSource
  | pan
  | panelFill
  | panelBitmap
  | reset
  | powerOn
  | resetNRelease
  | resetCompletion (held : List FrameChange)
  | reportPick
  | reportTransmitted (headerBegun : Bool)
  | videoInFrameStart (ended : VideoFrame) (held : List FrameChange)
  | internalFrameStart (held : List FrameChange)
  | lossTimerExpiry (held : List FrameChange)
  | returnToLocked
  | tapATick
  | tapBTick
  | fadeEnd
  | panEnd
  | panJumpToEnd
  | paletteGoesLive (p : Fin 8)
  | pendingTargetEntry
  | standbyEntry
  | wakeCompletion (held : List FrameChange)
  | layoutSubmission
  | flip
  | updateApplication
  | patchFlip
  | backlogMove
  | jobStart
  | jobCompletion
  | resyncCompletion
  | decodeStart
  | decodeCompletion
  | copyingPhaseStart
  | captureCompletion
  | transitionCompletion
  | setRefused
  | droppedSegmentEnd
  deriving DecidableEq, Repr

end Sys2Proof
end

