-- ==== Sys2Proof/Decode.lean ====
section
/-!
DEFINITION. The command a table word spells. No row of spec/opcode_table.json carries bits (98_reader.md,
n_rows_with_fixed 0), so no word spells a command (log 10).
-/

namespace Sys2Proof

/-- The command spelt by the `nbits` bits of `w`: none, since the table gives no row any bits. -/
def decodeTableWord (_nbits _w : Nat) : Option Instr := none

end Sys2Proof
end

