-- ==== Sys2Proof/Config.lean ====
section
/-!
DEFINITION. The constants the spec fixes (capacities, budgets, buffer sizes) and the one free value it leaves open.
-/

namespace Sys2Proof.Config

/-- Units of the Graphics Queue (R2). -/
def graphicsUnits : Nat := 112
/-- Units of the Management Queue (R2). -/
def managementUnits : Nat := 16
/-- Largest Length of a graphics segment (R2). -/
def graphicsMaxLength : Nat := 2038
/-- Largest Length of a management segment (R2). -/
def managementMaxLength : Nat := 1014
/-- Pixel Budget (R22). -/
def pixelBudget : Nat := 4194304
/-- Coded Area (R23). -/
def codedArea : Nat := 1048576
/-- Most coded bytes of one object (R23). -/
def codedObjectMax : Nat := 262144
/-- Places of the Decode Queue (R32). -/
def decodeQueueMax : Nat := 8
/-- Places of the Layout Queue (R57). -/
def layoutQueueMax : Nat := 4
/-- Places of the Draw Queue (R82). -/
def drawQueueMax : Nat := 16
/-- Places of the Key Queue (R107). -/
def keyQueueMax : Nat := 8
/-- Width of the plane buffers and of the largest raster (R78). -/
def planeWidth : Nat := 1920
/-- Height of the plane buffers and of the largest raster (R78). -/
def planeHeight : Nat := 1080
/-- Most hops of a directional key's walk (R111). -/
def walkHops : Nat := 48

/-- FREE VALUE (log 11). R89 names the placements that reach into a patch rectangle; an EMPTY or BROKEN object has no
size, so whether its placement reaches there is not stated. Arguments: the object id, the placement's X and Y, and the
rectangle's X, Y, W, H in scene coordinates. It is asked only where an object of the largest size would reach. -/
opaque absentObjectReaches (object x y rx ry rw rh : Nat) : Bool

end Sys2Proof.Config
end

