-- ==== Sys2Proof/Machine/State.lean ====
section
/-!
DEFINITION. The state of the JC-410 as plain data, block by block, and its value right after reset (R16, R43, R45, R52,
R77, R99, R122, R136, R137, R158, R159, R171, R177).
-/

namespace Sys2Proof.Machine

/-! ## Shared data -/

/-- A buffer as (address, value) pairs; canonical when addresses strictly rise and no value is the default. -/
abbrev Sparse (α : Type) := List (Nat × α)

/-- A rectangle X, Y, W, H (00_scope.md 5.3). -/
structure Rect where
  x : Nat
  y : Nat
  w : Nat
  h : Nat
  deriving DecidableEq, Repr

abbrev ObjectId := Fin 64
abbrev PaletteId := Fin 8
abbrev TableId := Fin 4
abbrev ButtonId := Fin 48

/-- The sixteen events (11.1). -/
inductive Event where
  | segBad | overrun | objBroken | objDamaged | layoutLate | layoutForced | objMissing | keyDrop
  | captureDone | stillFail | stillDone | videoLoss | videoBack | stateChange | fault | wake
  deriving DecidableEq, Repr

/-! ## Link Receiver and parsers (Chapter 1) -/

/-- A stored segment: header, payload and the CRC as received (R4, R6). -/
structure Segment where
  header : Header
  payload : List Byte
  crc : Word16
  deriving DecidableEq, Repr

/-- What the Link Receiver is framing (R1, R5, R6, R17). -/
inductive Rx where
  /-- no segment is being received; `strayRaised`: this run of stray bytes has raised SEG_BAD -/
  | waiting (strayRaised : Bool)
  /-- a segment has begun and its header is not complete; `dropped`: it began in the discard window -/
  | header (dropped : Bool)
  /-- an accepted segment is arriving -/
  | arriving (h : Header)
  /-- a segment is dropped byte by byte -/
  | dropping
  deriving DecidableEq, Repr

/-- Why a parser holds its head segment (R12, R14). -/
inductive HoldReason where
  | pinned | decodeQueueFull | layoutQueueFull | statusPending | drawQueueFull
  deriving DecidableEq, Repr

/-- A parser's condition (R9): STOPPED when `stopped`, HELD when `hold` has a reason, RUNNING otherwise. -/
structure Parser where
  stopped : Bool
  hold : Option HoldReason
  deriving DecidableEq, Repr

/-- One channel's queue, pending credit count and parser. -/
structure ChannelState where
  queue : List Segment
  credits : Nat
  parser : Parser
  deriving DecidableEq, Repr

structure Link where
  rx : Rx
  window : Bool
  graphics : ChannelState
  management : ChannelState
  deriving DecidableEq, Repr

/-! ## Reset and output states (Chapter 10) -/

inductive OutputState where
  | off | live | frozen | draining | standby | waking | fault
  deriving DecidableEq, Repr

/-- A pending target (R159). -/
inductive Target where
  | live | frozen | off | standby
  deriving DecidableEq, Repr

inductive RequestResult where
  | none | accepted | ignored
  deriving DecidableEq, Repr

structure Output where
  state : OutputState
  target : Option Target
  lastRequest : RequestResult
  deriving DecidableEq, Repr

inductive ResetCause where
  | powerOn | linkReset
  deriving DecidableEq, Repr

/-- RESET_N held low, a reset between its start and its completion, or out of reset (R168 to R170). -/
inductive ResetPhase where
  | asserted | inProgress | complete
  deriving DecidableEq, Repr

structure ResetCtl where
  cause : ResetCause
  phase : ResetPhase
  deriving DecidableEq, Repr

/-! ## Objects (Chapter 2) -/

/-- An object slot: its state with the fields present in it (R21). -/
inductive Slot where
  | empty
  | assembling (w h codedLength : Nat) (coded : List Byte) (nextSeq : Byte)
  | queued (w h codedLength : Nat) (coded : List Byte)
  | decoding (w h codedLength : Nat) (coded : List Byte)
  | ready (w h : Nat) (rows : List (List Byte))
  | damaged (w h : Nat) (rows : List (List Byte))
  | broken (skip : Bool)
  deriving DecidableEq, Repr

structure ObjectStore where
  slots : Vector Slot 64
  decodeQueue : List ObjectId
  decoder : Option ObjectId
  pins : List ObjectId
  deriving DecidableEq, Repr

/-! ## Palettes (Chapter 3) -/

/-- A palette entry (R44). -/
structure Entry where
  y : Byte
  cb : Byte
  cr : Byte
  a : Byte
  deriving DecidableEq, Repr

/-- The cleared entry (16, 128, 128, 0). -/
def clearEntry : Entry := ⟨16, 128, 128, 0⟩

inductive StagedTarget where
  | frame (t : Word16)
  | immediate
  deriving DecidableEq, Repr

/-- A scene palette: live copy, and the staged copy with its target when there is one (R44). Keys are Slots 0..1023. -/
structure ScenePalette where
  live : Sparse Entry
  staged : Option (Sparse Entry × StagedTarget)
  deriving DecidableEq, Repr

structure PanelPalette where
  written : Vector Entry 16
  shown : Vector Entry 16
  deriving DecidableEq, Repr

/-! ## Layouts and the scene (Chapter 4) -/

inductive LayoutKind where
  | full | update | erase
  deriving DecidableEq, Repr

inductive Fade where
  | none | fadeIn | fadeOut
  deriving DecidableEq, Repr

/-- A placement: object, KEYED, the crop rectangle with CROPPED, position in scene coordinates (4.2). -/
structure Placement where
  object : ObjectId
  keyed : Bool
  crop : Option Rect
  x : Nat
  y : Nat
  deriving DecidableEq, Repr

/-- A record of the Layout Queue (R56). `initial` is the button id as sent, 0xFF for NONE. -/
structure LayoutRecord where
  number : Word16
  kind : LayoutKind
  palette : PaletteId
  table : Option TableId
  initial : Byte
  fade : Fade
  target : Word16
  placements : List Placement
  deriving DecidableEq, Repr

/-- The Front Layout record (R64, R77). -/
structure FrontRecord where
  number : Word16
  palette : PaletteId
  table : Option TableId
  placements : List Placement
  deriving DecidableEq, Repr

structure Scene where
  number : Word16
  w : Nat
  h : Nat
  ox : Nat
  oy : Nat
  deriving DecidableEq, Repr

structure Scheduler where
  queue : List LayoutRecord
  back : Option LayoutRecord
  front : FrontRecord
  backlog : List ButtonId
  scene : Scene
  fade : Nat
  fadeDir : Fade
  deriving DecidableEq, Repr

/-! ## Draw Engine (Chapter 5) -/

/-- A plane buffer: 12-bit pixels keyed by y × 1920 + x, unlisted pixels 0 (R78). -/
abbrev Plane := Sparse (BitVec 12)

/-- A panel job: rectangle, panel index, the row bytes of a bitmap, and the mark to clear first (R90, R92). -/
structure PanelJob where
  rect : Rect
  index : BitVec 4
  bits : Option (List Byte)
  clearFirst : Bool
  deriving DecidableEq, Repr

/-- A job waiting in the Draw Queue (R82). -/
inductive Job where
  | rebuild (placements : List Placement) (table : Option TableId) (area : Rect)
  | patch (button : ButtonId)
  | panel (p : PanelJob)
  | sceneClear
  deriving DecidableEq, Repr

/-- One object's pixels as a job draws them: rows placed with their corner at plane point (x, y), clipped (R86, R87). -/
structure Blit where
  rows : List (List Byte)
  x : Nat
  y : Nat
  clip : Rect
  keyed : Bool
  deriving DecidableEq, Repr

/-- A started panel job with the masks it sampled; `clear` is SCENE_PROTECT when it is marked to clear first (R92). -/
structure RunningPanel where
  job : PanelJob
  mask : BitVec 12
  clear : Option (BitVec 12)
  deriving DecidableEq, Repr

/-- A REBUILD or PATCH held for its flip: the rectangle to resync, and the button of a PATCH (R83, R95). -/
inductive Held where
  | rebuild (area : Rect)
  | patch (button : ButtonId) (rect : Rect)
  deriving DecidableEq, Repr

/-- A job in DRAWING with all it samples at its start (R80, R81). -/
inductive Running where
  | scene (job : Held) (mask : BitVec 12) (blits : List Blit)
  | panel (p : RunningPanel)
  | sceneClear (mask : BitVec 12)
  deriving DecidableEq, Repr

/-- The engine state (R83). In RESYNCING, `copy` is the resync still to complete, with its rectangle and mask. -/
inductive Engine where
  | idle
  | drawing (j : Running)
  | awaitFlip (job : Held) (panel : Option RunningPanel)
  | resyncing (copy : Option (Rect × BitVec 12)) (panel : Option RunningPanel)
  deriving DecidableEq, Repr

structure Draw where
  planeX : Plane
  planeY : Plane
  frontIsX : Bool
  queue : List Job
  engine : Engine
  deriving DecidableEq, Repr

/-! ## Navigation (Chapter 6) -/

/-- A button record as the Navigation Unit keeps it (R100). -/
structure Button where
  id : ButtonId
  lookObject : Bool
  autoActivate : Bool
  muted : Bool
  numberActivates : Bool
  hasAnim : Bool
  rect : Rect
  up : Option ButtonId
  down : Option ButtonId
  left : Option ButtonId
  right : Option ButtonId
  number : Nat
  command : Word32
  normalObj : Option ObjectId
  selectedObj : Option ObjectId
  activatedObj : Option ObjectId
  mutedObj : Option ObjectId
  animFirst : ObjectId
  animCount : Nat
  deriving DecidableEq, Repr

structure Table where
  default : Option ButtonId
  buttons : List Button
  deriving DecidableEq, Repr

structure TableStore where
  live : Table
  staged : Option Table
  deriving DecidableEq, Repr

inductive ButtonState where
  | normal | selected | activated | muted
  deriving DecidableEq, Repr

inductive KeyCode where
  | up | down | left | right | ok | number
  deriving DecidableEq, Repr

/-- A key of the Key Queue; `marked`: to be answered UNUSED (R107, R121). -/
structure Key where
  code : KeyCode
  n : Byte
  marked : Bool
  deriving DecidableEq, Repr

inductive KeyOutcome where
  | moved | stayed | activated | unused
  deriving DecidableEq, Repr

structure KeyResult where
  code : KeyCode
  outcome : KeyOutcome
  button : Option ButtonId
  layout : Word16
  command : Word32
  deriving DecidableEq, Repr

/-- The activation hold (R114), with the key that began it and the Command read at its start (R116). -/
structure ActivationHold where
  button : ButtonId
  counter : Nat
  code : KeyCode
  command : Word32
  deriving DecidableEq, Repr

structure Nav where
  tables : Vector TableStore 4
  liveTable : Option TableId
  states : List (ButtonId × ButtonState)
  selection : Option ButtonId
  keys : List Key
  hold : Option ActivationHold
  anim : Nat
  result : Option KeyResult
  deriving DecidableEq, Repr

/-! ## Still Unit (Chapter 7) -/

/-- A still buffer (R123); the captured size is 0 × 0 except in VALID. -/
inductive StillBuffer where
  | empty
  | waiting
  | copying (w h : Nat) (rows : List (List Colour))
  | valid (w h : Nat) (rows : List (List Colour))
  | invalid
  deriving DecidableEq, Repr

inductive Source where
  | video
  | still (b : Fin 2)
  deriving DecidableEq, Repr

structure View where
  wx : Nat
  wy : Nat
  z : Nat
  deriving DecidableEq, Repr

inductive TransitionKind where
  | cut | dissolve | wipeAcross | wipeDown
  deriving DecidableEq, Repr

structure Transition where
  kind : TransitionKind
  old : Source
  new : Source
  d : Nat
  k : Nat
  deriving DecidableEq, Repr

structure PanRecord where
  x0 : Nat
  y0 : Nat
  x1 : Nat
  y1 : Nat
  zs : Nat
  ze : Nat
  n : Nat
  i : Nat
  deriving DecidableEq, Repr

inductive StillResult where
  | none | accepted | halted | shown | busy | noVideo | notValid | noStill | lost
  deriving DecidableEq, Repr

structure Still where
  buffers : Vector StillBuffer 2
  shown : Source
  view : View
  transition : Option Transition
  pan : Option PanRecord
  last : StillResult
  deriving DecidableEq, Repr

/-! ## Raster Timing, Scanout Mixer, Frame Divider (Chapters 8 and 9) -/

inductive TimingMode where
  | internal | locked
  deriving DecidableEq, Repr

inductive Rate where
  | fps50 | fps60
  deriving DecidableEq, Repr

structure Raster where
  mode : TimingMode
  width : Nat
  height : Nat
  fc : Word16
  rate : Rate
  lossTimer : Option Rate
  returnCount : Nat
  candidate : Option (Nat × Nat)
  whole : Bool
  deriving DecidableEq, Repr

/-- The frame latch (R145): what the Scanout Mixer latches, and the inputs R145 lists as fixed for the frame. -/
structure Latch where
  mode : TimingMode
  width : Nat
  height : Nat
  output : OutputState
  border : Colour
  pageMap : List (Rect × Nat)
  front : Plane
  palette : PaletteId
  fade : Nat
  scene : Scene
  panel : Vector Entry 16
  shown : Source
  view : View
  transition : Option Transition
  buffers : Vector StillBuffer 2
  deriving DecidableEq, Repr

structure Mixer where
  frame : Option Latch
  deriving DecidableEq, Repr

/-- A tap: active code, buffered code, enable (Chapter 9). -/
structure Tap where
  code : BitVec 3
  buffered : Option (BitVec 3)
  enabled : Bool
  deriving DecidableEq, Repr

structure Divider where
  count : BitVec 7
  running : Bool
  tapA : Tap
  tapB : Tap
  deriving DecidableEq, Repr

/-! ## Events, settings, reports (Chapter 11) -/

/-- The Event Unit (R171). `fatal`: bit 0 SEG_BAD, bit 1 OVERRUN, bit 2 OBJ_BROKEN; 1 is FATAL. -/
structure Events where
  flags : Word16
  enables : Word16
  globalEnable : Bool
  fatal : BitVec 3
  notices : Word16
  deriving DecidableEq, Repr

structure Settings where
  activateHold : Nat
  lateLimit : Nat
  lead : Nat
  sceneProtect : BitVec 12
  panelProtect : BitVec 12
  internalWidth : Nat
  internalHeight : Nat
  internalRate : Rate
  originX : Option Nat
  originY : Option Nat
  border : Colour
  deriving DecidableEq, Repr

/-- The Status record (R179), filled when a QUERY is taken. -/
structure StatusRecord where
  state : OutputState
  resetCause : ResetCause
  frameCounter : Word16
  timingMode : TimingMode
  rasterWidth : Nat
  rasterHeight : Nat
  scene : Scene
  frontLayout : Word16
  layoutQueueDepth : Nat
  fadeLevel : Nat
  pixelBudgetUsed : Nat
  codedAreaUsed : Nat
  liveTable : Option TableId
  selection : Option ButtonId
  still0 : StillBuffer
  still1 : StillBuffer
  shownSource : Source
  lastStillResult : StillResult
  lastRequestResult : RequestResult
  globalEnable : Bool
  flags : Word16
  enables : Word16
  severity : BitVec 3
  tapACode : BitVec 3
  tapBCode : BitVec 3
  tapAEnabled : Bool
  tapBEnabled : Bool
  deriving DecidableEq, Repr

inductive ReportKind where
  | ready | credit | status | keyResult | notice
  deriving DecidableEq, Repr

/-- A report formed at its pick (R18, R181); Flags are 0 and the CRC is computed from it. -/
structure Report where
  kind : ReportKind
  tag : Byte
  target : Word16
  seq : Byte
  payload : List Byte
  deriving DecidableEq, Repr

structure Sender where
  transmitting : Option Report
  nextSeq : Byte
  ready : Bool
  status : Option StatusRecord
  deriving DecidableEq, Repr

/-! ## The state -/

/-- A pair of a SET: Setting id and Value. -/
structure SetPair where
  id : Byte
  value : Word32
  deriving DecidableEq, Repr

/-- The MODEL's own: the indivisible event that is being carried out by several commands (log 4, log 5). -/
inductive Underway where
  | nothing
  /-- a frame start and the changes it still owes -/
  | frame (owed : List FrameChange)
  /-- a SET with the pairs still to apply; `skipped`: an unknown id has been skipped -/
  | set (pairs : List SetPair) (skipped : Bool)
  /-- a frame start made but for the entry into STANDBY that ends its drain (log 23) -/
  | drained
  deriving DecidableEq, Repr

/-- The state of the part, with the queue of waiting commands. -/
structure State where
  pending : List Instr
  underway : Underway
  link : Link
  sender : Sender
  objects : ObjectStore
  palettes : Vector ScenePalette 8
  panel : PanelPalette
  sched : Scheduler
  draw : Draw
  nav : Nav
  still : Still
  raster : Raster
  mixer : Mixer
  divider : Divider
  output : Output
  events : Events
  settings : Settings
  resetCtl : ResetCtl
  deriving DecidableEq, Repr

/-- No command of this part stops the machine: the spec's FAULT is an output state (R166), not a fault of the model.
Nothing raises this type's values, since it has none; that is safe. -/
inductive Fault where
  deriving DecidableEq, Repr

/-- Refusals. -/
inductive Refusal where
  /-- Raised by `exec` for a command whose meaning is not written; no command is left so. Safe: the model stops. -/
  | notModelled (mnemonic : String)
  deriving DecidableEq, Repr

/-! ## Reset values -/

/-- R16. -/
def resetChannel : ChannelState := { queue := [], credits := 0, parser := { stopped := false, hold := none } }

/-- R16, R17. -/
def resetLink : Link :=
  { rx := .waiting false, window := true, graphics := resetChannel, management := resetChannel }

/-- R168, R18. -/
def resetSender : Sender := { transmitting := none, nextSeq := 0, ready := false, status := none }

/-- R43. -/
def resetObjects : ObjectStore :=
  { slots := Vector.replicate 64 .empty, decodeQueue := [], decoder := none, pins := [] }

/-- R45. -/
def resetPalettes : Vector ScenePalette 8 := Vector.replicate 8 { live := [], staged := none }

/-- R52. -/
def resetPanel : PanelPalette :=
  { written := Vector.replicate 16 clearEntry, shown := Vector.replicate 16 clearEntry }

/-- R77. -/
def resetFront : FrontRecord := { number := 0, palette := 0, table := none, placements := [] }

/-- R73. -/
def resetScene : Scene := { number := 0, w := 1920, h := 1080, ox := 0, oy := 0 }

/-- R77. -/
def resetSched : Scheduler :=
  { queue := [], back := none, front := resetFront, backlog := [], scene := resetScene, fade := 16, fadeDir := .none }

/-- R99. -/
def resetDraw : Draw := { planeX := [], planeY := [], frontIsX := true, queue := [], engine := .idle }

/-- R100: an empty table with Default NONE. -/
def emptyTable : Table := { default := none, buttons := [] }

/-- R122. -/
def resetNav : Nav :=
  { tables := Vector.replicate 4 { live := emptyTable, staged := none }, liveTable := none, states := [],
    selection := none, keys := [], hold := none, anim := 0, result := none }

/-- WX 0, WY 0, Z 1 (R124). -/
def resetView : View := { wx := 0, wy := 0, z := 1 }

/-- R136. -/
def resetStill : Still :=
  { buffers := Vector.replicate 2 .empty, shown := .video, view := resetView, transition := none, pan := none,
    last := .none }

/-- R137. -/
def resetRaster : Raster :=
  { mode := .internal, width := 1920, height := 1080, fc := 0, rate := .fps60, lossTimer := none, returnCount := 0,
    candidate := none, whole := false }

/-- R158. -/
def resetDivider : Divider :=
  { count := 0, running := true, tapA := { code := 2, buffered := none, enabled := true },
    tapB := { code := 1, buffered := none, enabled := true } }

/-- R159. -/
def resetOutput : Output := { state := .off, target := none, lastRequest := .none }

/-- R171. -/
def resetEvents : Events := { flags := 0, enables := 0, globalEnable := false, fatal := 0, notices := 0 }

/-- R177. -/
def resetSettings : Settings :=
  { activateHold := 6, lateLimit := 8, lead := 2, sceneProtect := 0xF00, panelProtect := 0x0FF, internalWidth := 1920,
    internalHeight := 1080, internalRate := .fps60, originX := none, originY := none, border := ⟨16, 128, 128⟩ }

/-- The state RESET_N's assertion leaves (R168): every block at its power-on values, no command waiting. -/
def State.reset : State :=
  { pending := [], underway := .nothing, link := resetLink, sender := resetSender, objects := resetObjects,
    palettes := resetPalettes, panel := resetPanel, sched := resetSched, draw := resetDraw, nav := resetNav,
    still := resetStill, raster := resetRaster, mixer := { frame := none }, divider := resetDivider,
    output := resetOutput, events := resetEvents, settings := resetSettings,
    resetCtl := { cause := .powerOn, phase := .asserted } }

/-! ## One setter per block -/

def State.setPending (s : State) (v : List Instr) : State := { s with pending := v }
def State.setUnderway (s : State) (v : Underway) : State := { s with underway := v }
def State.setLink (s : State) (v : Link) : State := { s with link := v }
def State.setSender (s : State) (v : Sender) : State := { s with sender := v }
def State.setObjects (s : State) (v : ObjectStore) : State := { s with objects := v }
def State.setPalettes (s : State) (v : Vector ScenePalette 8) : State := { s with palettes := v }
def State.setPanel (s : State) (v : PanelPalette) : State := { s with panel := v }
def State.setSched (s : State) (v : Scheduler) : State := { s with sched := v }
def State.setDraw (s : State) (v : Draw) : State := { s with draw := v }
def State.setNav (s : State) (v : Nav) : State := { s with nav := v }
def State.setStill (s : State) (v : Still) : State := { s with still := v }
def State.setRaster (s : State) (v : Raster) : State := { s with raster := v }
def State.setMixer (s : State) (v : Mixer) : State := { s with mixer := v }
def State.setDivider (s : State) (v : Divider) : State := { s with divider := v }
def State.setOutput (s : State) (v : Output) : State := { s with output := v }
def State.setEvents (s : State) (v : Events) : State := { s with events := v }
def State.setSettings (s : State) (v : Settings) : State := { s with settings := v }
def State.setResetCtl (s : State) (v : ResetCtl) : State := { s with resetCtl := v }

end Sys2Proof.Machine
end

