-- ==== Sys2Proof/Machine/Ops.lean ====
section
/-!
DEFINITION. The operations shared by the commands: sparse buffers, rectangles and masked plane writes (5.2), the Event
Unit's raising and the entry into FAULT (R166, R172), the output state (R159), the outcome of a command whose event
cannot occur (log 2), object lookups, PATCH requests (R82) and the Back and Front buffers.
-/

namespace Sys2Proof.Machine

/-! ## Sparse buffers -/

/-- The value at address `a`; an unlisted address reads `d`. -/
def Sparse.get {α : Type} (d : α) : Sparse α → Nat → α
  | [], _ => d
  | (k, v) :: m, a => if a = k then v else Sparse.get d m a

/-- Writes `v` at address `a`, keeping the canonical form. -/
def Sparse.set {α : Type} [DecidableEq α] (d : α) : Sparse α → Nat → α → Sparse α
  | [], a, v => if v = d then [] else [(a, v)]
  | (k, w) :: m, a, v =>
    if a < k then (if v = d then (k, w) :: m else (a, v) :: (k, w) :: m)
    else if a = k then (if v = d then m else (a, v) :: m)
    else (k, w) :: Sparse.set d m a v

/-- Applies `f` at the addresses `p` picks; `f` keeps the default. -/
def Sparse.mapIf {α : Type} [DecidableEq α] (d : α) (p : Nat → Bool) (f : α → α) : Sparse α → Sparse α
  | [] => []
  | (k, v) :: m =>
    if p k then (if f v = d then Sparse.mapIf d p f m else (k, f v) :: Sparse.mapIf d p f m)
    else (k, v) :: Sparse.mapIf d p f m

/-- The canonical form: addresses strictly rise and no listed value is the default. -/
def Sparse.wf {α : Type} [DecidableEq α] (d : α) : Sparse α → Bool
  | [] => true
  | (k, v) :: m => decide (v ≠ d) && m.all (fun p => k < p.1) && Sparse.wf d m

/-! ## Rectangles -/

/-- The point lies in the rectangle (00_scope.md 5.3). -/
def Rect.has (r : Rect) (x y : Nat) : Bool :=
  decide (r.x ≤ x) && decide (x < r.x + r.w) && decide (r.y ≤ y) && decide (y < r.y + r.h)

/-- The part of `r` that lies in `q`. -/
def Rect.clip (r q : Rect) : Rect :=
  { x := max r.x q.x, y := max r.y q.y, w := min (r.x + r.w) (q.x + q.w) - max r.x q.x,
    h := min (r.y + r.h) (q.y + q.h) - max r.y q.y }

/-- The rectangle covers no pixel. -/
def Rect.isEmpty (r : Rect) : Bool := r.w == 0 || r.h == 0

/-- The rectangle moved by (dx, dy). -/
def Rect.move (r : Rect) (dx dy : Nat) : Rect := { r with x := r.x + dx, y := r.y + dy }

/-- The whole plane (R78). -/
def planeRect : Rect := { x := 0, y := 0, w := Config.planeWidth, h := Config.planeHeight }

/-- The scene area, clipped to the plane (R73). -/
def Scene.area (sc : Scene) : Rect := Rect.clip { x := sc.ox, y := sc.oy, w := sc.w, h := sc.h } planeRect

/-! ## Plane writes (R80) -/

/-- The address of a plane pixel. -/
def pixelAddress (x y : Nat) : Nat := y * Config.planeWidth + x

/-- The pixel (x, y) of a plane buffer. -/
def Plane.pixel (p : Plane) (x y : Nat) : BitVec 12 := Sparse.get 0 p (pixelAddress x y)

/-- A write of a value under a protect mask: the bits the mask leaves at 0 take the value's bits (R80). -/
def maskedWrite (mask old value : BitVec 12) : BitVec 12 := (old &&& mask) ||| (value &&& ~~~mask)

/-- A masked write of one pixel. -/
def Plane.put (mask : BitVec 12) (value : BitVec 12) (x y : Nat) (p : Plane) : Plane :=
  Sparse.set 0 p (pixelAddress x y) (maskedWrite mask (p.pixel x y) value)

/-- A clear of a rectangle (R80): the value 0 written to each of its pixels. A pixel that reads 0 stays 0. -/
def Plane.clear (mask : BitVec 12) (r : Rect) (p : Plane) : Plane :=
  Sparse.mapIf 0 (fun a => r.has (a % Config.planeWidth) (a / Config.planeWidth)) (fun v => maskedWrite mask v 0) p

/-- Writes the pixels of a row from (x, y) on where they lie in `clip`; a keyed write leaves index 0 out (R86). -/
def Plane.blitRow (mask : BitVec 12) (clip : Rect) (keyed : Bool) (x y : Nat) : List Byte → Plane → Plane
  | [], p => p
  | b :: row, p =>
    Plane.blitRow mask clip keyed (x + 1) y row
      (if clip.has x y && !(keyed && b == 0) then p.put mask (b.setWidth 12) x y else p)

/-- Writes the rows of an object's pixels, the first at line y. -/
def Plane.blitRows (mask : BitVec 12) (clip : Rect) (keyed : Bool) (x y : Nat) : List (List Byte) → Plane → Plane
  | [], p => p
  | row :: rows, p => Plane.blitRows mask clip keyed x (y + 1) rows (Plane.blitRow mask clip keyed x y row p)

/-- Draws one object's pixels (R86, R87). -/
def Plane.blit (mask : BitVec 12) (b : Blit) (p : Plane) : Plane :=
  Plane.blitRows mask b.clip b.keyed b.x b.y b.rows p

/-- The plane points of a rectangle, row by row. -/
def Rect.points (r : Rect) : List (Nat × Nat) :=
  (List.range r.h).flatMap fun j => (List.range r.w).map fun i => (r.x + i, r.y + j)

/-- The value a panel job writes at plane point (x, y), or none where a bitmap's bit is 0 (R80, R90). -/
def PanelJob.value (j : PanelJob) (x y : Nat) : Option (BitVec 12) :=
  let v : BitVec 12 := j.index.setWidth 12 <<< 8
  match j.bits with
  | none => some v
  | some bytes =>
    let i := x - j.rect.x
    let byte := bytes.getD ((y - j.rect.y) * ceilDiv j.rect.w 8 + i / 8) 0
    if byte.getLsbD (7 - i % 8) then some v else none

/-- A panel job's writes on one buffer, clipped to the plane (R90). -/
def Plane.panelWrite (mask : BitVec 12) (j : PanelJob) (p : Plane) : Plane :=
  (Rect.clip j.rect planeRect).points.foldl
    (fun p q => match j.value q.1 q.2 with
      | some v => p.put mask v q.1 q.2
      | none => p) p

/-- A RESYNC on `back`: over the rectangle, the bits the mask leaves at 0 are copied from `front` (R96). -/
def Plane.resync (mask : BitVec 12) (r : Rect) (front back : Plane) : Plane :=
  ((front.map (·.1) ++ back.map (·.1)).filter
      (fun a => r.has (a % Config.planeWidth) (a / Config.planeWidth))).foldl
    (fun b a => Sparse.set 0 b a (maskedWrite mask (Sparse.get 0 b a) (Sparse.get 0 front a))) back

/-- The Front buffer (R78). -/
def Draw.front (d : Draw) : Plane := if d.frontIsX then d.planeX else d.planeY

/-- The Back buffer (R78). -/
def Draw.back (d : Draw) : Plane := if d.frontIsX then d.planeY else d.planeX

/-- The same Draw Engine with another Back buffer. -/
def Draw.setBack (d : Draw) (p : Plane) : Draw := if d.frontIsX then { d with planeY := p } else { d with planeX := p }

/-- Applies a write to both buffers (R79). -/
def Draw.onBoth (d : Draw) (f : Plane → Plane) : Draw := { d with planeX := f d.planeX, planeY := f d.planeY }

/-! ## Output state, events and FAULT -/

/-- The event's number (11.1). -/
def Event.num : Event → Nat
  | .segBad => 0 | .overrun => 1 | .objBroken => 2 | .objDamaged => 3 | .layoutLate => 4 | .layoutForced => 5
  | .objMissing => 6 | .keyDrop => 7 | .captureDone => 8 | .stillFail => 9 | .stillDone => 10 | .videoLoss => 11
  | .videoBack => 12 | .stateChange => 13 | .fault => 14 | .wake => 15

/-- The event's bit in a 16-bit event set (12.3). -/
def Event.bit (e : Event) : Word16 := 1#16 <<< e.num

/-- The event has the severity FATAL (R171); only SEG_BAD, OVERRUN and OBJ_BROKEN can. -/
def Events.isFatal (ev : Events) (e : Event) : Bool := decide (e.num < 3) && ev.fatal.getLsbD e.num

/-- Steps 1 and 2 of R172 on the Event Unit. -/
def Events.raise (ev : Events) (e : Event) : Events :=
  if ev.flags.getLsbD e.num then ev
  else { ev with
    flags := ev.flags ||| e.bit
    notices := if ev.enables.getLsbD e.num then ev.notices ||| e.bit else ev.notices }

/-- The attention line (R173). -/
def Events.attention (ev : Events) : Bool := ev.globalEnable && decide (ev.flags &&& ev.enables ≠ 0)

/-- Raises an event that cannot be FATAL. -/
def raiseFlag (e : Event) (s : State) : State := s.setEvents (s.events.raise e)

/-- Output Control is in one of the states from which a FATAL event enters FAULT (R166). -/
def OutputState.canFault : OutputState → Bool
  | .live | .frozen | .off | .draining => true
  | .standby | .waking | .fault => false

/-- The entry into FAULT (R166). -/
def enterFault (s : State) : State :=
  if s.output.state.canFault then
    raiseFlag .stateChange (raiseFlag .fault (s.setOutput { s.output with state := .fault, target := none }))
  else s

/-- Raises an event: the Event Unit's steps, and FAULT when its severity is FATAL (R172). -/
def raise (e : Event) (s : State) : State :=
  if s.events.isFatal e then enterFault (raiseFlag e s) else raiseFlag e s

/-- Raises the events of a list in order. -/
def raiseAll : List Event → State → State
  | [], s => s
  | e :: es, s => raiseAll es (raise e s)

/-- Changes the output state, raising STATE_CHANGE when it changes (R159). -/
def setOutputState (o : OutputState) (s : State) : State :=
  if s.output.state = o then s else raiseFlag .stateChange (s.setOutput { s.output with state := o })

/-- Sets the Last Request Result (R159). -/
def setRequestResult (r : RequestResult) (s : State) : State := s.setOutput { s.output with lastRequest := r }

/-- Frame starts occur: the part is out of reset and not in STANDBY or WAKING (R144, R169). A Video In frame start is not
taken either where this is false: R144 says so of STANDBY and WAKING, and between the start of a reset and its completion it
is the model's choice (log 24). -/
def framesRun (s : State) : Bool :=
  decide (s.resetCtl.phase = .complete) && decide (s.output.state ≠ .standby) && decide (s.output.state ≠ .waking)

/-- The frame that begins is in FROZEN (3.3). -/
def frozenFrame (s : State) : Bool := decide (s.output.state = .frozen)

/-- Output Control is in LIVE, FROZEN or OFF: decodes and jobs may start (R34, R84). -/
def OutputState.working : OutputState → Bool
  | .live | .frozen | .off => true
  | .draining | .standby | .waking | .fault => false

/-! ## Presentation time -/

/-- The target is due at frame number `fc` (R55). -/
def due (fc t : Word16) : Bool := decide ((fc - t).toNat < 32768)

/-- A due target's lateness d in frames (R55). -/
def lateness (fc t : Word16) : Nat := (fc - t).toNat

/-- A target's distance ahead (R55). -/
def distanceAhead (fc t : Word16) : Nat := (t - fc).toNat

/-! ## Objects -/

/-- The slot of an object id. -/
def ObjectStore.slot (o : ObjectStore) (k : ObjectId) : Slot := o.slots.get k

/-- The store with another content of one slot. -/
def ObjectStore.setSlot (o : ObjectStore) (k : ObjectId) (v : Slot) : ObjectStore := { o with slots := o.slots.set k v }

/-- A drawable slot's size and pixels (R38). -/
def Slot.pixels : Slot → Option (Nat × Nat × List (List Byte))
  | .ready w h rows => some (w, h, rows)
  | .damaged w h rows => some (w, h, rows)
  | .empty | .assembling .. | .queued .. | .decoding .. | .broken _ => none

/-- The size of a slot in which Width and Height are present (R21). -/
def Slot.size : Slot → Option (Nat × Nat)
  | .ready w h _ => some (w, h)
  | .damaged w h _ => some (w, h)
  | .assembling w h _ _ _ => some (w, h)
  | .queued w h _ _ => some (w, h)
  | .decoding w h _ _ => some (w, h)
  | .empty | .broken _ => none

/-- The object is still on its way: ASSEMBLING, QUEUED or DECODING (R58). -/
def Slot.onItsWay : Slot → Bool
  | .assembling .. | .queued .. | .decoding .. => true
  | .empty | .ready .. | .damaged .. | .broken _ => false

/-- Width × Height as charged to the Pixel Budget (R22). -/
def Slot.charge (v : Slot) : Nat :=
  match v.size with
  | some (w, h) => w * h
  | none => 0

/-- The coded bytes a slot holds in the Coded Area (R23). -/
def Slot.codedBytes : Slot → Nat
  | .assembling _ _ _ coded _ => coded.length
  | .queued _ _ _ coded => coded.length
  | .decoding _ _ _ coded => coded.length
  | .empty | .ready .. | .damaged .. | .broken _ => 0

/-- Pixel Budget used (R22). -/
def ObjectStore.budgetUsed (o : ObjectStore) : Nat := (o.slots.toList.map Slot.charge).sum

/-- Coded Area used (R23). -/
def ObjectStore.codedUsed (o : ObjectStore) : Nat := (o.slots.toList.map Slot.codedBytes).sum

/-! ## Tables -/

/-- The table copy a layout that names `t` would bring into effect: the staged copy if there is one (R58). -/
def Nav.effectiveTable (n : Nav) (t : TableId) : Table :=
  match (n.tables.get t).staged with
  | some tbl => tbl
  | none => (n.tables.get t).live

/-- The live table, empty when the live table id is NONE. -/
def Nav.table (n : Nav) : Table :=
  match n.liveTable with
  | some t => (n.tables.get t).live
  | none => emptyTable

/-- The button of a table with an id. -/
def Table.button (t : Table) (b : ButtonId) : Option Button := t.buttons.find? fun x => x.id == b

/-- The state held for a button; a button for which none is held is NORMAL. -/
def Nav.stateOf (n : Nav) (b : ButtonId) : ButtonState :=
  match n.states.find? fun p => p.1 == b with
  | some p => p.2
  | none => .normal

/-- Sets the state of a button for which one is held. -/
def Nav.setState (n : Nav) (b : ButtonId) (v : ButtonState) : Nav :=
  { n with states := n.states.map fun p => if p.1 = b then (p.1, v) else p }

/-- A button's base state (R105). -/
def Button.base (b : Button) : ButtonState := if b.muted then .muted else .normal

/-- The look object of a button in a state (R118). -/
def Button.look (b : Button) (anim : Nat) : ButtonState → Option ObjectId
  | .normal => b.normalObj
  | .selected =>
    if b.hasAnim then (if h : b.animFirst.val + anim < 64 then some ⟨b.animFirst.val + anim, h⟩ else none)
    else b.selectedObj
  | .activated => b.activatedObj
  | .muted => b.mutedObj

/-! ## Draw Queue -/

/-- An unstarted PATCH for the button is queued (R82). -/
def Draw.hasPatch (d : Draw) (b : ButtonId) : Bool := d.queue.any fun j => decide (j = .patch b)

/-- The Draw Queue has room for `n` jobs. -/
def Draw.room (d : Draw) (n : Nat) : Bool := decide (d.queue.length + n ≤ Config.drawQueueMax)

/-- A request for a PATCH: met by an unstarted one, queued, or placed in the Update Backlog (R82, R118). -/
def requestPatch (b : ButtonId) (s : State) : State :=
  if s.draw.hasPatch b || s.sched.backlog.contains b then s
  else if s.draw.room 1 then s.setDraw { s.draw with queue := s.draw.queue ++ [.patch b] }
  else s.setSched { s.sched with backlog := s.sched.backlog ++ [b] }

/-- A request for a PATCH for a button of the live table if it has LOOK_OBJECT (R113, R114, R115). -/
def requestLook (b : ButtonId) (s : State) : State :=
  match s.nav.table.button b with
  | some btn => if btn.lookObject then requestPatch b s else s
  | none => s

/-- The job counts as a scene job (R83, R92). -/
def Job.isScene : Job → Bool
  | .rebuild .. | .patch _ | .sceneClear => true
  | .panel p => p.clearFirst

/-- A scene job is queued or running (R83). -/
def Draw.sceneBusy (d : Draw) : Bool :=
  d.queue.any Job.isScene ||
  match d.engine with
  | .idle => false
  | .drawing (.panel p) => p.clear.isSome
  | .drawing (.scene ..) | .drawing (.sceneClear _) | .awaitFlip .. | .resyncing .. => true

/-- BACKLOG_MOVE is due: an id waits and the Draw Queue has room (R67). -/
def backlogDue (s : State) : Bool := !s.sched.backlog.isEmpty && s.draw.room 1

/-- Moves the first id of the Update Backlog into the Draw Queue, or drops it if it has an unstarted PATCH (R67). -/
def moveBacklog (s : State) : State :=
  match s.sched.backlog with
  | [] => s
  | b :: rest =>
    if s.draw.room 1 then
      let s1 := s.setSched { s.sched with backlog := rest }
      if s.draw.hasPatch b then s1 else s1.setDraw { s1.draw with queue := s1.draw.queue ++ [.patch b] }
    else s

/-- Moves ids until the backlog is empty or the Draw Queue is full; `fuel` is the number of ids. -/
def drainBacklog : Nat → State → State
  | 0, s => s
  | n + 1, s => if backlogDue s then drainBacklog n (moveBacklog s) else s

/-- The room that remains: the Draw Queue has room for a job once its free places have been offered to the Update Backlog,
which comes before every other source (R67, R82). -/
def roomRemains (s : State) : Bool := (drainBacklog s.sched.backlog.length s).draw.room 1

end Sys2Proof.Machine
end

