-- ==== Sys2Proof/Machine/Layouts.lean ====
section
/-!
DEFINITION. The byte layouts of Chapter 12: header, CRC (R4), kinds and channels (R2), Tag ranges and minimum payloads
(R11), the records of the payloads (R180), and the bytes of every report (R181).
-/

namespace Sys2Proof.Machine

/-! ## Fields -/

/-- The byte at an offset. -/
def u8 (p : List Byte) (i : Nat) : Nat := (p.getD i 0).toNat

/-- The two-byte field at an offset, big-endian. -/
def u16 (p : List Byte) (i : Nat) : Nat := u8 p i * 256 + u8 p (i + 1)

/-- The four-byte field at an offset, big-endian. -/
def u32 (p : List Byte) (i : Nat) : Nat := u16 p i * 65536 + u16 p (i + 2)

/-- One byte. -/
def byteOf (n : Nat) : Byte := BitVec.ofNat 8 n

/-- Two bytes, big-endian. -/
def bytes16 (n : Nat) : List Byte := [byteOf (n / 256), byteOf n]

/-- Four bytes, big-endian. -/
def bytes32 (n : Nat) : List Byte := bytes16 (n / 65536) ++ bytes16 n

/-- An id coded with 0xFF for NONE. -/
def idByte {n : Nat} : Option (Fin n) → Byte
  | some k => byteOf k.val
  | none => 0xFF

/-- An id below `n`, or none. -/
def idOf (n v : Nat) : Option (Fin n) := if h : v < n then some ⟨v, h⟩ else none

/-! ## Header and CRC -/

/-- The eight header bytes in the order they are sent (12.1). -/
def headerBytes (h : Header) : List Byte :=
  [h.kind, h.flags] ++ bytes16 h.length.toNat ++ bytes16 h.target.toNat ++ [h.tag, h.seq]

/-- Flag FIRST (12.1). -/
def hasFirst (h : Header) : Bool := h.flags.getLsbD 0
/-- Flag LAST. -/
def hasLast (h : Header) : Bool := h.flags.getLsbD 1
/-- Flag IMMEDIATE. -/
def isImmediate (h : Header) : Bool := h.flags.getLsbD 2

/-- One bit of the CRC register: x^16 + x^12 + x^5 + 1, most significant bit first (R4). -/
def crcBit (c : Word16) : Word16 := if c.msb then (c <<< 1) ^^^ 0x1021#16 else c <<< 1

/-- One byte into the CRC register. -/
def crcByte (c : Word16) (b : Byte) : Word16 :=
  crcBit (crcBit (crcBit (crcBit (crcBit (crcBit (crcBit (crcBit (c ^^^ (b.setWidth 16 <<< 8)))))))))

/-- The CRC of a run of bytes: the register starts at 0xFFFF and is not inverted (R4). -/
def crc16 (bytes : List Byte) : Word16 := bytes.foldl crcByte 0xFFFF#16

/-- The stored CRC is the one computed over header and payload (R11, check 1). -/
def Segment.crcOk (g : Segment) : Bool := crc16 (headerBytes g.header ++ g.payload) == g.crc

/-- Units of a segment of a given Length: ceil((10 + Length) / 64) (R7). -/
def unitsOf (h : Header) : Nat := ceilDiv (10 + h.length.toNat) 64

/-! ## Kinds and channels -/

inductive Channel where
  | graphics | management
  deriving DecidableEq, Repr

/-- The channel of a Kind (R2). -/
def channelOf (kind : Byte) : Option Channel :=
  if kind = 0 then none
  else if kind.toNat ≤ 0x3F then some .graphics
  else if kind.toNat ≤ 0x7F then some .management
  else none

/-- The largest Length of a channel (R2). -/
def Channel.maxLength : Channel → Nat
  | .graphics => Config.graphicsMaxLength
  | .management => Config.managementMaxLength

/-- A channel's capacity in units (R2). -/
def Channel.capacity : Channel → Nat
  | .graphics => Config.graphicsUnits
  | .management => Config.managementUnits

/-- The assigned kinds (R2). -/
inductive SegmentKind where
  | sceneOpen | palette | object | buttons | layout | cancel
  | key | planeReq | set | query | clearEvents | capture | showSource | pan | panelFill | panelBitmap | reset
  deriving DecidableEq, Repr

/-- The assigned kind a Kind byte names; none for an unassigned kind (R2). -/
def segmentKind (kind : Byte) : Option SegmentKind :=
  match kind.toNat with
  | 0x01 => some .sceneOpen | 0x02 => some .palette | 0x03 => some .object | 0x04 => some .buttons
  | 0x05 => some .layout | 0x06 => some .cancel | 0x41 => some .key | 0x42 => some .planeReq | 0x43 => some .set
  | 0x44 => some .query | 0x45 => some .clearEvents | 0x46 => some .capture | 0x47 => some .showSource
  | 0x48 => some .pan | 0x49 => some .panelFill | 0x4A => some .panelBitmap | 0x4F => some .reset
  | _ => none

/-- The Tag lies in its kind's range (R11, check 3); the kinds that do not read it accept any. -/
def tagOk (k : SegmentKind) (tag : Byte) : Bool :=
  match k with
  | .palette => decide (tag.toNat < 8)
  | .object => decide (tag.toNat < 64)
  | .buttons => decide (tag.toNat < 4)
  | .key => decide (tag.toNat < 6)
  | .planeReq => decide (tag.toNat < 5)
  | .capture => decide (tag.toNat < 2)
  | .showSource => decide (tag.toNat < 3)
  | .sceneOpen | .layout | .cancel | .set | .query | .clearEvents | .pan | .panelFill | .panelBitmap | .reset => true

/-! ## Payload records -/

/-- A button record as sent (12.2). -/
structure RawButton where
  id : Nat
  flags : Byte
  x : Nat
  y : Nat
  w : Nat
  h : Nat
  up : Nat
  down : Nat
  left : Nat
  right : Nat
  number : Nat
  command : Word32
  looks : List Nat
  animFirst : Nat
  animCount : Nat
  deriving DecidableEq, Repr

/-- The bytes a button record with these flags occupies: 20, and 4 with LOOK_OBJECT, 2 with HAS_ANIM (12.2). -/
def rawButtonSize (flags : Byte) : Nat :=
  20 + (if flags.getLsbD 0 then 4 else 0) + (if flags.getLsbD 4 then 2 else 0)

/-- The button record at the start of `p`; the look part comes before the animation part (12.2). -/
def rawButton (p : List Byte) : RawButton :=
  let flags := p.getD 1 0
  let animAt := if flags.getLsbD 0 then 24 else 20
  { id := u8 p 0, flags, x := u16 p 2, y := u16 p 4, w := u16 p 6, h := u16 p 8, up := u8 p 10, down := u8 p 11,
    left := u8 p 12, right := u8 p 13, number := u8 p 14, command := BitVec.ofNat 32 (u32 p 16),
    looks := if flags.getLsbD 0 then [u8 p 20, u8 p 21, u8 p 22, u8 p 23] else [],
    animFirst := if flags.getLsbD 4 then u8 p animAt else 0,
    animCount := if flags.getLsbD 4 then u8 p (animAt + 1) else 0 }

/-- `n` button records, or none if the payload is too short for them. -/
def rawButtons : Nat → List Byte → Option (List RawButton)
  | 0, _ => some []
  | n + 1, p =>
    let size := rawButtonSize (p.getD 1 0)
    if p.length < size then none
    else (rawButtons n (p.drop size)).map (rawButton p :: ·)

/-- A placement as sent (12.2). -/
structure RawPlacement where
  object : Nat
  keyed : Bool
  crop : Option Rect
  x : Nat
  y : Nat
  deriving DecidableEq, Repr

/-- `n` placements of 6 bytes, or 14 with CROPPED; none if the payload is too short for them. -/
def rawPlacements : Nat → List Byte → Option (List RawPlacement)
  | 0, _ => some []
  | n + 1, p =>
    let cropped := (p.getD 1 0).getLsbD 1
    let size := if cropped then 14 else 6
    if p.length < size then none
    else
      let r : RawPlacement :=
        { object := u8 p 0, keyed := (p.getD 1 0).getLsbD 0, x := u16 p 2, y := u16 p 4,
          crop := if cropped then some { x := u16 p 6, y := u16 p 8, w := u16 p 10, h := u16 p 12 } else none }
      (rawPlacements n (p.drop size)).map (r :: ·)

/-- The palette entry in four bytes. -/
def entryAt (p : List Byte) (i : Nat) : Entry := ⟨p.getD i 0, p.getD (i + 1) 0, p.getD (i + 2) 0, p.getD (i + 3) 0⟩

/-- `n` palette entries of 6 bytes: Slot, Y, Cb, Cr, A. -/
def paletteEntries : Nat → List Byte → List (Nat × Entry)
  | 0, _ => []
  | n + 1, p => (u16 p 0, entryAt p 2) :: paletteEntries n (p.drop 6)

/-- `n` SET pairs of 5 bytes. -/
def setPairs : Nat → List Byte → List SetPair
  | 0, _ => []
  | n + 1, p => ⟨p.getD 0 0, BitVec.ofNat 32 (u32 p 1)⟩ :: setPairs n (p.drop 5)

/-- The payload covers every field of its kind (R11, check 4). -/
def longEnough (k : SegmentKind) (h : Header) (p : List Byte) : Bool :=
  match k with
  | .sceneOpen => decide (8 ≤ p.length)
  | .palette => decide (4 ≤ p.length) && decide (4 + 6 * u16 p 2 ≤ p.length)
  | .object => if hasFirst h then decide (10 ≤ p.length) else true
  | .buttons => decide (4 ≤ p.length) && (rawButtons (u8 p 2) (p.drop 4)).isSome
  | .layout => decide (8 ≤ p.length) && (rawPlacements (u8 p 7) (p.drop 8)).isSome
  | .key => if h.tag = 5 then decide (1 ≤ p.length) else true
  | .set => decide (1 ≤ p.length) && decide (1 + 5 * u8 p 0 ≤ p.length)
  | .clearEvents => decide (2 ≤ p.length)
  | .showSource => decide (2 ≤ p.length)
  | .pan => decide (12 ≤ p.length)
  | .panelFill => decide (9 ≤ p.length)
  | .panelBitmap => decide (9 ≤ p.length) && decide (9 + u16 p 6 * ceilDiv (u16 p 4) 8 ≤ p.length)
  | .cancel | .planeReq | .query | .capture | .reset => true

/-- The kind of a segment that passes the four checks of R11; none for one that fails a check. -/
def Segment.checked (g : Segment) : Option SegmentKind :=
  if g.crcOk then
    match segmentKind g.header.kind with
    | some k => if tagOk k g.header.tag && longEnough k g.header g.payload then some k else none
    | none => none
  else none

/-! ## Reports -/

def OutputState.code : OutputState → Byte
  | .off => 0 | .live => 1 | .frozen => 2 | .draining => 3 | .standby => 4 | .waking => 5 | .fault => 6

def ResetCause.code : ResetCause → Byte
  | .powerOn => 0 | .linkReset => 1

def TimingMode.code : TimingMode → Byte
  | .internal => 0 | .locked => 1

def StillBuffer.code : StillBuffer → Byte
  | .empty => 0 | .waiting => 1 | .copying .. => 1 | .valid .. => 2 | .invalid => 3

def Source.code : Source → Byte
  | .video => 0 | .still b => byteOf (b.val + 1)

def StillResult.code : StillResult → Byte
  | .none => 0 | .accepted => 1 | .halted => 2 | .shown => 3 | .busy => 4 | .noVideo => 5 | .notValid => 6
  | .noStill => 7 | .lost => 8

def RequestResult.code : RequestResult → Byte
  | .none => 0 | .accepted => 1 | .ignored => 2

def KeyCode.code : KeyCode → Byte
  | .up => 0 | .down => 1 | .left => 2 | .right => 3 | .ok => 4 | .number => 5

def KeyOutcome.code : KeyOutcome → Byte
  | .moved => 0 | .stayed => 1 | .activated => 2 | .unused => 3

def boolByte (b : Bool) : Byte := if b then 1 else 0

/-- The 48 bytes of the Status record (12.4). -/
def StatusRecord.bytes (r : StatusRecord) : List Byte :=
  [r.state.code, r.resetCause.code] ++ bytes16 r.frameCounter.toNat ++ [r.timingMode.code, 0]
    ++ bytes16 r.rasterWidth ++ bytes16 r.rasterHeight ++ bytes16 r.scene.number.toNat
    ++ bytes16 r.scene.w ++ bytes16 r.scene.h ++ bytes16 r.scene.ox ++ bytes16 r.scene.oy
    ++ bytes16 r.frontLayout.toNat ++ [byteOf r.layoutQueueDepth, byteOf r.fadeLevel]
    ++ bytes32 r.pixelBudgetUsed ++ bytes32 r.codedAreaUsed
    ++ [idByte r.liveTable, idByte r.selection, r.still0.code, r.still1.code, r.shownSource.code,
        r.lastStillResult.code, r.lastRequestResult.code, boolByte r.globalEnable]
    ++ bytes16 r.flags.toNat ++ bytes16 r.enables.toNat
    ++ [r.severity.setWidth 8, r.tapACode.setWidth 8, r.tapBCode.setWidth 8,
        boolByte r.tapAEnabled ||| (boolByte r.tapBEnabled <<< 1)]

/-- The payload of a KEY_RESULT (R181). -/
def KeyResult.bytes (r : KeyResult) : List Byte :=
  [r.code.code, r.outcome.code, idByte r.button, 0] ++ bytes16 r.layout.toNat ++ bytes32 r.command.toNat

/-- The Kind byte of a report (R18). -/
def ReportKind.code : ReportKind → Byte
  | .ready => 0x81 | .credit => 0x82 | .status => 0x83 | .keyResult => 0x84 | .notice => 0x85

/-- The header of a report: Flags 0, Length from its payload (R18, R181). -/
def Report.header (r : Report) : Header :=
  { kind := r.kind.code, flags := 0, length := BitVec.ofNat 16 r.payload.length, target := r.target, tag := r.tag,
    seq := r.seq }

/-- All bytes of a report on the Report Link, the CRC high byte first (R4, R18). -/
def Report.bytes (r : Report) : List Byte :=
  let body := headerBytes r.header ++ r.payload
  body ++ bytes16 (crc16 body).toNat

end Sys2Proof.Machine
end

