-- ==== Sys2Proof/Machine/Objects.lean ====
section
/-!
DEFINITION. The Object Store and the Object Decoder (Chapter 2): assembling an object from its fragments (R24 to R31),
the run-coded format (R39 to R41), and the start and completion of a decode (R34, R35).
-/

namespace Sys2Proof.Machine

/-- Applies a function to every slot. -/
def ObjectStore.mapSlots (o : ObjectStore) (f : Slot → Slot) : ObjectStore :=
  { o with slots := ⟨(o.slots.toList.map f).toArray, by simp⟩ }

/-- Slot `k`'s old content is discarded: its Decode Queue entry leaves, its decode in flight is abandoned (R24, R36). -/
def ObjectStore.discard (o : ObjectStore) (k : ObjectId) : ObjectStore :=
  { o.setSlot k .empty with
    decodeQueue := o.decodeQueue.filter fun j => decide (j ≠ k)
    decoder := if o.decoder = some k then none else o.decoder }

/-- The slot is ASSEMBLING. -/
def Slot.isAssembling : Slot → Bool
  | .assembling .. => true
  | .empty | .queued .. | .decoding .. | .ready .. | .damaged .. | .broken _ => false

/-- What a new first fragment does to the other slots: an ASSEMBLING one becomes BROKEN, skip marks clear (R25). -/
def Slot.afterNewObject : Slot → Slot
  | .assembling .. => .broken false
  | .broken _ => .broken false
  | .empty => .empty
  | .queued w h n c => .queued w h n c
  | .decoding w h n c => .decoding w h n c
  | .ready w h r => .ready w h r
  | .damaged w h r => .damaged w h r

/-- What CANCEL does to a slot: an ASSEMBLING one becomes EMPTY, a skip mark clears (R31). -/
def Slot.afterCancel : Slot → Slot
  | .assembling .. => .empty
  | .broken _ => .broken false
  | .empty => .empty
  | .queued w h n c => .queued w h n c
  | .decoding w h n c => .decoding w h n c
  | .ready w h r => .ready w h r
  | .damaged w h r => .damaged w h r

/-- R30: a fragment carrying LAST completes object `k` to QUEUED, or breaks it with reason LENGTH. -/
def ObjectStore.completeObject (o : ObjectStore) (k : ObjectId) : ObjectStore × List Event :=
  match o.slot k with
  | .assembling w h len coded _ =>
    if coded.length = len then
      ({ o.setSlot k (.queued w h len coded) with decodeQueue := o.decodeQueue ++ [k] }, [])
    else (o.setSlot k (.broken false), [.objBroken])
  | .empty | .queued .. | .decoding .. | .ready .. | .damaged .. | .broken _ => (o, [])

/-- The four tests of R26, on the store after the releases of R24 and R25. -/
def ObjectStore.accepts (o : ObjectStore) (w h len : Nat) : Bool :=
  decide (1 ≤ len) && decide (o.budgetUsed + w * h ≤ Config.pixelBudget) && decide (len ≤ Config.codedObjectMax)
    && decide (len + o.codedUsed ≤ Config.codedArea)

/-- A first fragment for object `k` (R24 to R27): its Width, Height and CodedLength as sent, and its coded bytes. -/
def ObjectStore.takeFirst (o : ObjectStore) (k : ObjectId) (seq : Byte) (isLast : Bool) (w h len : Nat)
    (coded : List Byte) : ObjectStore × List Event :=
  let o1 := o.discard k
  let incomplete : List Event := if o1.slots.toList.any Slot.isAssembling then [.objBroken] else []
  let o2 := o1.mapSlots Slot.afterNewObject
  let w1 := clamp 1 Config.planeWidth w
  let h1 := clamp 1 Config.planeHeight h
  if o2.accepts w1 h1 len then
    if coded.length ≤ len then
      let o3 := o2.setSlot k (.assembling w1 h1 len coded (seq + 1))
      if isLast then
        let r := o3.completeObject k
        (r.1, incomplete ++ r.2)
      else (o3, incomplete)
    else (o2.setSlot k (.broken false), incomplete ++ [.objBroken])
  else (o2.setSlot k (.broken (!isLast)), incomplete ++ [.objBroken])

/-- A later fragment for object `k` (R28 to R30). -/
def ObjectStore.takeLater (o : ObjectStore) (k : ObjectId) (seq : Byte) (isLast : Bool) (bytes : List Byte) :
    ObjectStore × List Event :=
  match o.slot k with
  | .broken true => (if isLast then o.setSlot k (.broken false) else o, [])
  | .assembling w h len coded nextSeq =>
    if seq = nextSeq then
      if coded.length + bytes.length ≤ len then
        let o1 := o.setSlot k (.assembling w h len (coded ++ bytes) (nextSeq + 1))
        if isLast then o1.completeObject k else (o1, [])
      else (o.setSlot k (.broken false), [.objBroken])
    else (o.setSlot k (.broken false), [.objBroken])
  | .empty | .queued .. | .decoding .. | .ready .. | .damaged .. | .broken false => (o, [.segBad])

/-- A fragment of object `k` failed its CRC: an ASSEMBLING object breaks with reason GAP (R11, R29). -/
def ObjectStore.breakGap (o : ObjectStore) (k : ObjectId) : ObjectStore × List Event :=
  if (o.slot k).isAssembling then (o.setSlot k (.broken false), [.objBroken]) else (o, [])

/-- The result of handing an OBJECT segment to the Object Store. -/
def ObjectStore.takeFragment (o : ObjectStore) (k : ObjectId) (g : Segment) : ObjectStore × List Event :=
  if hasFirst g.header then
    o.takeFirst k g.header.seq (hasLast g.header) (u16 g.payload 2) (u16 g.payload 4) (u32 g.payload 6)
      (g.payload.drop 10)
  else o.takeLater k g.header.seq (hasLast g.header) g.payload

/-- A LAST fragment would join the Decode Queue: judged by the rules of Chapter 2 without changing a slot (R12). -/
def ObjectStore.wouldQueue (o : ObjectStore) (k : ObjectId) (g : Segment) : Bool :=
  hasLast g.header &&
  match (o.takeFragment k g).1.slot k with
  | .queued .. => hasFirst g.header || (o.slot k).isAssembling
  | .empty | .assembling .. | .decoding .. | .ready .. | .damaged .. | .broken _ => false

/-! ## The run-coded format (2.6) -/

/-- The decoder's progress: the closed rows, the pixels of the current row, and the damage mark (R40). -/
structure Decoding where
  rows : List (List Byte)
  line : List Byte
  damaged : Bool
  deriving DecidableEq, Repr

/-- Places pixels at the current column (R40, "Pixel placing", "Pixel beyond the line", "Pixel beyond the object"). -/
def Decoding.place (w h : Nat) (px : List Byte) (d : Decoding) : Decoding :=
  if d.rows.length < h then
    { d with line := d.line ++ px.take (w - d.line.length), damaged := d.damaged || decide (w < d.line.length + px.length) }
  else { d with damaged := true }

/-- A row filled with index 0 up to the width. -/
def fillRow (w : Nat) (line : List Byte) : List Byte := line ++ List.replicate (w - line.length) 0

/-- A line end (R40). -/
def Decoding.lineEnd (w h : Nat) (d : Decoding) : Decoding :=
  if d.rows.length < h then
    { rows := d.rows ++ [fillRow w d.line], line := [], damaged := d.damaged || decide (d.line.length < w) }
  else { d with damaged := true }

/-- The end of decoding (R41): rows still open are filled with index 0 and mark the object damaged. -/
def Decoding.finish (w h : Nat) (d : Decoding) : List (List Byte) × Bool :=
  if d.rows.length < h then
    (d.rows ++ fillRow w d.line :: List.replicate (h - d.rows.length - 1) (fillRow w []), true)
  else (d.rows, d.damaged)

/-- A cut-off code: no pixels, the object is damaged, decoding ends (R41). -/
def Decoding.cutOff (w h : Nat) (d : Decoding) : List (List Byte) × Bool :=
  Decoding.finish w h { d with damaged := true }

/-- Decodes coded bytes (R39); `fuel` is at least the number of bytes, since every code takes one. -/
def decodeRun (w h : Nat) : Nat → List Byte → Decoding → List (List Byte) × Bool
  | 0, _, d => d.finish w h
  | _ + 1, [], d => d.finish w h
  | n + 1, c :: rest, d =>
    let c := c.toNat
    if c < 64 then
      if c + 1 ≤ rest.length then decodeRun w h n (rest.drop (c + 1)) (d.place w h (rest.take (c + 1)))
      else d.cutOff w h
    else if c < 128 then
      match rest with
      | v :: rest => decodeRun w h n rest (d.place w h (List.replicate (c - 64 + 2) v))
      | [] => d.cutOff w h
    else if c < 192 then
      match rest with
      | m :: v :: rest => decodeRun w h n rest (d.place w h (List.replicate ((c - 128) * 256 + m.toNat + 66) v))
      | [_] | [] => d.cutOff w h
    else if c = 192 then decodeRun w h n rest (d.lineEnd w h)
    else if c < 255 then decodeRun w h n rest (d.place w h (List.replicate (c - 192) 0))
    else d.finish w h

/-- The index pixels of an object and whether it is damaged. -/
def decodeObject (w h : Nat) (coded : List Byte) : List (List Byte) × Bool :=
  decodeRun w h coded.length coded { rows := [], line := [], damaged := false }

/-- R34: the decoder takes the head of the Decode Queue when no decode is in flight. -/
def ObjectStore.startDecode (o : ObjectStore) : ObjectStore :=
  match o.decoder, o.decodeQueue with
  | none, k :: rest =>
    match o.slot k with
    | .queued w h len coded => { o.setSlot k (.decoding w h len coded) with decodeQueue := rest, decoder := some k }
    | .empty | .assembling .. | .decoding .. | .ready .. | .damaged .. | .broken _ => o
  | none, [] => o
  | some _, _ => o

/-- R35: the decode in flight completes READY or DAMAGED. -/
def ObjectStore.completeDecode (o : ObjectStore) : ObjectStore × List Event :=
  match o.decoder with
  | some k =>
    match o.slot k with
    | .decoding w h _ coded =>
      let r := decodeObject w h coded
      if r.2 then ({ o.setSlot k (.damaged w h r.1) with decoder := none }, [.objDamaged])
      else ({ o.setSlot k (.ready w h r.1) with decoder := none }, [])
    | .empty | .assembling .. | .queued .. | .ready .. | .damaged .. | .broken _ => (o, [])
  | none => (o, [])

end Sys2Proof.Machine
end

