-- ==== Sys2Proof/Machine/Parsers.lean ====
section
/-!
DEFINITION. The two parsers (R9 to R15): the queues and unit counts, the hold conditions, the discards, and the taking of
a head segment. A parser's discards are made inside the command that exposes the segment (log 6).
-/

namespace Sys2Proof.Machine

/-- One channel of the link. -/
def Link.channel (l : Link) : Channel → ChannelState
  | .graphics => l.graphics
  | .management => l.management

/-- The link with another content of one channel. -/
def Link.setChannel (l : Link) (ch : Channel) (c : ChannelState) : Link :=
  match ch with
  | .graphics => { l with graphics := c }
  | .management => { l with management := c }

/-- The state with another content of one channel. -/
def setChannel (ch : Channel) (c : ChannelState) (s : State) : State := s.setLink (s.link.setChannel ch c)

/-- Units of the stored segments of a channel (R7). -/
def ChannelState.units (c : ChannelState) : Nat := (c.queue.map fun g => unitsOf g.header).sum

/-- Units reserved in a channel for the segment in arrival (R5, R7). -/
def Link.arrivingUnits (l : Link) (ch : Channel) : Nat :=
  match l.rx with
  | .arriving h => if channelOf h.kind = some ch then unitsOf h else 0
  | .waiting _ | .header _ | .dropping => 0

/-- A channel's occupied units (R7). -/
def Link.occupied (l : Link) (ch : Channel) : Nat := (l.channel ch).units + l.arrivingUnits ch

/-- A channel's free units: the capacity less the occupied and the pending units (R7). -/
def Link.free (l : Link) (ch : Channel) : Nat := ch.capacity - l.occupied ch - (l.channel ch).credits

/-- Removes the head segment and adds its units to the pending credit count (R10). -/
def dropHead (ch : Channel) (s : State) : State :=
  let c := s.link.channel ch
  match c.queue with
  | [] => s
  | g :: rest => setChannel ch { c with queue := rest, credits := c.credits + unitsOf g.header } s

/-- Why a checked head segment is held (R12, R14); none when it may be taken. A panel segment is tested against the room that
remains once the Update Backlog has been offered the free places (R82, log 14). Where both conditions of R12 hold a FIRST and
LAST fragment, the reason kept is the model's choice (log 26). -/
def holdReason (s : State) (k : SegmentKind) (g : Segment) : Option HoldReason :=
  match k with
  | .object =>
    match idOf 64 g.header.tag.toNat with
    | some id =>
      if hasFirst g.header && s.objects.pins.contains id then some .pinned
      else if s.objects.wouldQueue id g && decide (Config.decodeQueueMax ≤ s.objects.decodeQueue.length) then
        some .decodeQueueFull
      else none
    | none => none
  | .layout => if Config.layoutQueueMax ≤ s.sched.queue.length then some .layoutQueueFull else none
  | .query => if s.sender.status.isSome then some .statusPending else none
  | .panelFill | .panelBitmap => if roomRemains s then none else some .drawQueueFull
  | .sceneOpen | .palette | .buttons | .cancel | .key | .planeReq | .set | .clearEvents | .capture | .showSource | .pan
  | .reset => none

/-- The kinds a parser discards in FAULT: every graphics segment (R13), and the panel segments (R15). -/
def SegmentKind.droppedInFault : SegmentKind → Bool
  | .sceneOpen | .palette | .object | .buttons | .layout | .cancel | .panelFill | .panelBitmap => true
  | .key | .planeReq | .set | .query | .clearEvents | .capture | .showSource | .pan | .reset => false

/-- The parser discards the checked segment without an event (R13, R15). -/
def faultDrops (s : State) (k : SegmentKind) : Bool := decide (s.output.state = .fault) && k.droppedInFault

/-- A fragment of object `k` failed its CRC (R11): the gap as the Object Store and the Event Unit see it. -/
def breakObject (k : ObjectId) (s : State) : State :=
  raiseAll (s.objects.breakGap k).2 (s.setObjects (s.objects.breakGap k).1)

/-- The discard of a head segment that fails a check of R11: SEG_BAD, and a gap when a fragment of the ASSEMBLING object
fails its CRC. -/
def discardBad (ch : Channel) (g : Segment) (s : State) : State :=
  let s1 := raise .segBad (dropHead ch s)
  if g.crcOk then s1
  else if g.header.kind = 3 then
    match idOf 64 g.header.tag.toNat with
    | some k => breakObject k s1
    | none => s1
  else s1

/-- Sets a parser's hold reason (R9). -/
def setHold (ch : Channel) (h : Option HoldReason) (s : State) : State :=
  let c := s.link.channel ch
  setChannel ch { c with parser := { c.parser with hold := h } } s

/-- One parser works on its head: it discards what R11, R13 and R15 discard, and is HELD or RUNNING at the first segment it
keeps. `fuel` is more than the number of stored segments. A STOPPED parser does nothing and keeps its hold reason. -/
def runParser (ch : Channel) : Nat → State → State
  | 0, s => s
  | n + 1, s =>
    if (s.link.channel ch).parser.stopped then s
    else
      match (s.link.channel ch).queue with
      | [] => setHold ch none s
      | g :: _ =>
        match g.checked with
        | none => runParser ch n (discardBad ch g s)
        | some k => if faultDrops s k then runParser ch n (dropHead ch s) else setHold ch (holdReason s k g) s

/-- One parser, with enough fuel for its queue. -/
def parserGoesOn (ch : Channel) (s : State) : State := runParser ch ((s.link.channel ch).queue.length + 1) s

/-- Both parsers. A discard on one channel can enter FAULT, which the other channel's parser then reads; the Graphics
Parser reads it once more after the Management Parser. -/
def parsersGoOn (s : State) : State :=
  parserGoesOn .graphics (parserGoesOn .management (parserGoesOn .graphics s))

/-- The head segment that can be taken as a segment of kind `k`: the parser is not STOPPED, the segment passes the checks
as that kind, FAULT does not discard it and no hold condition holds (R10 to R15). -/
def takeable (ch : Channel) (k : SegmentKind) (s : State) : Option Segment :=
  if (s.link.channel ch).parser.stopped then none
  else
    match (s.link.channel ch).queue with
    | [] => none
    | g :: _ =>
      if decide (g.checked = some k) && !faultDrops s k && (holdReason s k g).isNone then some g else none

/-- Takes the head segment when it is of kind `k` and `p` holds of it, and hands it to its owner `f` (R10). -/
def takeSegment (ch : Channel) (k : SegmentKind) (p : Segment → Bool) (f : Segment → State → State) (s : State) :
    State :=
  match takeable ch k s with
  | some g => if p g then f g (dropHead ch s) else s
  | none => s

end Sys2Proof.Machine
end

