-- ==== Sys2Proof/Machine/LinkReceiver.lean ====
section
/-!
DEFINITION. The Link Receiver (R1, R5, R6, R17): framing, the header checks, the arrival of a segment and the framing
faults.
-/

namespace Sys2Proof.Machine

/-- The state with another framing state. -/
def setRx (r : Rx) (s : State) : State := s.setLink { s.link with rx := r }

/-- The arrival of a segment is cut short (R6): SEG_BAD, and the reserved units become free with the arrival. -/
def cutArrival (s : State) : State := raise .segBad (setRx (.waiting false) s)

/-- A byte with segment-start begins a segment (R1). One that begins in the discard window is marked dropped (R17). A
segment whose header is already begun goes on. -/
def beginSegment (s : State) : State :=
  match s.link.rx with
  | .header _ => s
  | .waiting _ | .dropping => setRx (.header s.link.window) s
  | .arriving _ =>
    let s1 := cutArrival s
    setRx (.header s1.link.window) s1

/-- The arrival signal to Output Control (R6): in STANDBY it starts WAKING (R165). -/
def arrivalSignal (s : State) : State := if s.output.state = .standby then setOutputState .waking s else s

/-- What the checks of R5 say of a header, with the free units of each channel. -/
inductive HeaderCheck where
  | accepted | bad | overrun
  deriving DecidableEq, Repr

/-- The three checks of R5 in their order. -/
def checkHeader (l : Link) (h : Header) : HeaderCheck :=
  match channelOf h.kind with
  | none => .bad
  | some ch =>
    if ch.maxLength < h.length.toNat then .bad
    else if l.free ch < unitsOf h then .overrun
    else .accepted

/-- The eighth header byte has been received (R5, R6, R17). -/
def receiveHeader (h : Header) (s : State) : State :=
  let s1 := beginSegment s
  match s1.link.rx with
  | .header false =>
    let s2 := arrivalSignal s1
    match checkHeader s2.link h with
    | .accepted => setRx (.arriving h) s2
    | .bad => raise .segBad (setRx .dropping s2)
    | .overrun => raise .overrun (setRx .dropping s2)
  | .header true | .waiting _ | .arriving _ | .dropping => setRx .dropping s1

/-- The last byte of an accepted segment has been received: it joins the end of its channel's queue (R6). The payload must
have the Length of the header. -/
def completeArrival (payload : List Byte) (crc : Word16) (s : State) : State :=
  match s.link.rx with
  | .arriving h =>
    match channelOf h.kind with
    | some ch =>
      if payload.length = h.length.toNat then
        let c := s.link.channel ch
        setRx (.waiting false) (setChannel ch { c with queue := c.queue ++ [{ header := h, payload, crc }] } s)
      else s
    | none => s
  | .waiting _ | .header _ | .dropping => s

/-- Segment-start before the eighth header byte (R1): SEG_BAD, unless the segment began in the discard window (R17); the
new byte begins a new segment. -/
def cutHeader (received : Nat) (s : State) : State :=
  if 1 ≤ received ∧ received ≤ 7 then
    let s1 := beginSegment s
    let s2 := match s1.link.rx with
      | .header true => s1
      | .header false | .waiting _ | .arriving _ | .dropping => raise .segBad s1
    setRx (.header s2.link.window) s2
  else s

/-- Segment-start after the header and before the last byte of an accepted segment (R6): the arrival is cut short and the
new byte begins a new segment. -/
def cutShort (s : State) : State :=
  match s.link.rx with
  | .arriving _ => beginSegment s
  | .waiting _ | .header _ | .dropping => s

/-- Bytes without segment-start while no segment is being received (R1): SEG_BAD once for each run, in the discard window too
(log 12). That bytes before the first segment since power-on are such a run is the model's choice (log 12). Nothing is raised
while RESET_N is held low (R168). -/
def receiveStray (count : Nat) (s : State) : State :=
  match s.link.rx with
  | .waiting false =>
    if 1 ≤ count ∧ s.resetCtl.phase ≠ .asserted then raise .segBad (setRx (.waiting true) s) else s
  | .waiting true | .header _ | .arriving _ | .dropping => s

/-- The last byte of a dropped segment, by the count its Length implies, has been received (R5). -/
def endDropped (s : State) : State :=
  match s.link.rx with
  | .dropping => setRx (.waiting false) s
  | .waiting _ | .header _ | .arriving _ => s

/-- The framing state after the start of a reset: the segment being received is dropped silently (R16, R17, log 16). -/
def Rx.afterReset : Rx → Rx
  | .arriving _ | .dropping => .dropping
  | .header _ => .header true
  | .waiting _ => .waiting false

end Sys2Proof.Machine
end

