-- ==== Sys2Proof/Machine/DrawEngine.lean ====
section
/-!
DEFINITION. The Draw Engine (Chapter 5): what a REBUILD and a PATCH draw (R86 to R89), the start and completion of jobs
(R84, R85), flips and RESYNC (R95, R96), and the part of a scene flush that reaches the engine (R98).
-/

namespace Sys2Proof.Machine

/-- One object a scene job draws: its crop, the plane point of its corner, its clip and KEYED (R86, R87). -/
structure DrawItem where
  object : ObjectId
  crop : Option Rect
  x : Nat
  y : Nat
  clip : Rect
  keyed : Bool
  deriving DecidableEq, Repr

/-- The source rectangle in an object of size w × h (R86). -/
def DrawItem.source (i : DrawItem) (w h : Nat) : Rect :=
  match i.crop with
  | none => { x := 0, y := 0, w, h }
  | some c => Rect.clip c { x := 0, y := 0, w, h }

/-- The rows of a source rectangle. -/
def cutRows (r : Rect) (rows : List (List Byte)) : List (List Byte) :=
  ((rows.drop r.y).take r.h).map fun row => (row.drop r.x).take r.w

/-- The item as it is drawn from an object's pixels. -/
def DrawItem.blit (i : DrawItem) (w h : Nat) (rows : List (List Byte)) : Blit :=
  { rows := cutRows (i.source w h) rows, x := i.x, y := i.y, clip := i.clip, keyed := i.keyed }

/-- A placement in a job with this clip (R86). -/
def Placement.item (sc : Scene) (clip : Rect) (p : Placement) : DrawItem :=
  { object := p.object, crop := p.crop, x := sc.ox + p.x, y := sc.oy + p.y, clip, keyed := p.keyed }

/-- A button's rectangle in plane coordinates. -/
def Button.planeRect (sc : Scene) (b : Button) : Rect := b.rect.move sc.ox sc.oy

/-- A button's look in a job with this clip: keyed, clipped to the button's rectangle as well (R87). -/
def Button.item (sc : Scene) (clip : Rect) (b : Button) (o : ObjectId) : DrawItem :=
  { object := o, crop := none, x := sc.ox + b.rect.x, y := sc.oy + b.rect.y, clip := Rect.clip (b.planeRect sc) clip,
    keyed := true }

/-- The looks of the LOOK_OBJECT buttons among `bs`, each in the state `st` gives it (R87); NONE draws nothing. -/
def lookItems (sc : Scene) (clip : Rect) (anim : Nat) (st : Button → ButtonState) (bs : List Button) :
    List DrawItem :=
  bs.filterMap fun b =>
    if b.lookObject then (b.look anim (st b)).map (Button.item sc clip b) else none

/-- The objects a REBUILD draws, in drawing order (R88, steps 2 and 3). -/
def rebuildItems (s : State) (placements : List Placement) (table : Option TableId) (area : Rect) : List DrawItem :=
  placements.map (Placement.item s.sched.scene area) ++
  match table with
  | some t => lookItems s.sched.scene area 0 Button.base (s.nav.effectiveTable t).buttons
  | none => []

/-- A placement reaches into a patch rectangle (R89). An object without a size reaches nowhere that the largest object
would not; where that one would, the answer is free (log 11). -/
def DrawItem.reaches (o : ObjectStore) (r : Rect) (i : DrawItem) : Bool :=
  let dest (w h : Nat) : Rect := { x := i.x, y := i.y, w := (i.source w h).w, h := (i.source w h).h }
  match (o.slot i.object).size with
  | some (w, h) => !(Rect.clip (dest w h) r).isEmpty
  | none =>
    !(Rect.clip (dest Config.planeWidth Config.planeHeight) r).isEmpty
      && Config.absentObjectReaches i.object.val i.x i.y r.x r.y r.w r.h

/-- The patch rectangle of a button: translated by the origin, clipped to the scene area and the plane (R89). -/
def patchRect (sc : Scene) (b : Button) : Rect := Rect.clip (b.planeRect sc) sc.area

/-- The objects a PATCH draws, in drawing order (R89, steps 2 and 3). -/
def patchItems (s : State) (r : Rect) : List DrawItem :=
  (s.sched.front.placements.map (Placement.item s.sched.scene r)).filter (DrawItem.reaches s.objects r) ++
  lookItems s.sched.scene r s.nav.anim (fun b => s.nav.stateOf b.id)
    (s.nav.table.buttons.filter fun b => !(Rect.clip (b.planeRect s.sched.scene) r).isEmpty)

/-- The items whose objects are READY or DAMAGED, as they are drawn (R87). -/
def drawnBlits (o : ObjectStore) (items : List DrawItem) : List Blit :=
  items.filterMap fun i => (o.slot i.object).pixels.map fun p => i.blit p.1 p.2.1 p.2.2

/-- The objects a job pins: those it names that are READY or DAMAGED (R37). -/
def pinnedBy (o : ObjectStore) (items : List DrawItem) : List ObjectId :=
  (items.filter fun i => (o.slot i.object).pixels.isSome).map DrawItem.object

/-- Some named object is omitted (R87). -/
def omits (o : ObjectStore) (items : List DrawItem) : Bool :=
  items.any fun i => (o.slot i.object).pixels.isNone

/-- The rectangle of a held job: the scene area of a REBUILD, the patch rectangle of a PATCH. -/
def Held.rect : Held → Rect
  | .rebuild area => area
  | .patch _ r => r

/-- Starts a scene job: SCENE_PROTECT sampled, objects pinned, OBJ_MISSING raised once if any is omitted (R84, R87). -/
def startScene (job : Held) (items : List DrawItem) (s : State) : State :=
  let s1 := (s.setDraw { s.draw with
      engine := .drawing (.scene job s.settings.sceneProtect (drawnBlits s.objects items)) }).setObjects
    { s.objects with pins := pinnedBy s.objects items }
  if omits s.objects items then raise .objMissing s1 else s1

/-- A panel job with the masks it samples at its start (R80, R92). -/
def samplePanel (st : Settings) (p : PanelJob) : RunningPanel :=
  { job := p, mask := st.panelProtect, clear := if p.clearFirst then some st.sceneProtect else none }

/-- Starts a job that has left the queue, from IDLE (R84). -/
def startFromIdle (j : Job) (s : State) : State :=
  match j with
  | .rebuild placements table area => startScene (.rebuild area) (rebuildItems s placements table area) s
  | .patch b =>
    match s.nav.table.button b with
    | some btn =>
      let r := patchRect s.sched.scene btn
      if r.isEmpty then s else startScene (.patch b r) (patchItems s r) s
    | none => s
  | .panel p => s.setDraw { s.draw with engine := .drawing (.panel (samplePanel s.settings p)) }
  | .sceneClear => s.setDraw { s.draw with engine := .drawing (.sceneClear s.settings.sceneProtect) }

/-- The start test and the start of the head job (R84). -/
def startJob (s : State) : State :=
  if s.output.state.working then
    match s.draw.queue with
    | [] => s
    | j :: rest =>
      let s1 := s.setDraw { s.draw with queue := rest }
      match s.draw.engine with
      | .idle => startFromIdle j s1
      | .awaitFlip held none =>
        match j with
        | .panel p =>
          if p.clearFirst then s
          else s1.setDraw { s1.draw with engine := .awaitFlip held (some (samplePanel s.settings p)) }
        | .rebuild .. | .patch _ | .sceneClear => s
      | .awaitFlip _ (some _) | .drawing _ | .resyncing .. => s
  else s

/-- A panel job's writes on one buffer: the clear it is marked with first, then its own (R90, R92). -/
def RunningPanel.write (p : RunningPanel) (b : Plane) : Plane :=
  (match p.clear with
   | some m => b.clear m planeRect
   | none => b).panelWrite p.mask p.job

/-- A scene job's writes on the Back buffer: the clear of its rectangle, then its objects in order (R88, R89). -/
def sceneWrite (r : Rect) (mask : BitVec 12) (blits : List Blit) (b : Plane) : Plane :=
  blits.foldl (fun b i => b.blit mask i) (b.clear mask r)

/-- The completion of the job in DRAWING, or of the panel job in flight (R85, R96). -/
def completeJob (s : State) : State :=
  match s.draw.engine with
  | .drawing (.scene job mask blits) =>
    ((s.setDraw { (s.draw.setBack (sceneWrite job.rect mask blits s.draw.back)) with
        engine := .awaitFlip job none }).setObjects { s.objects with pins := [] })
  | .drawing (.panel p) => s.setDraw { s.draw.onBoth p.write with engine := .idle }
  | .drawing (.sceneClear mask) => s.setDraw { s.draw.onBoth (Plane.clear mask planeRect) with engine := .idle }
  | .awaitFlip job (some p) => s.setDraw { s.draw.onBoth p.write with engine := .awaitFlip job none }
  | .resyncing (some c) (some p) => s.setDraw { s.draw.onBoth p.write with engine := .resyncing (some c) none }
  | .resyncing none (some p) => s.setDraw { s.draw.onBoth p.write with engine := .idle }
  | .idle | .awaitFlip _ none | .resyncing _ none => s

/-- The completion of a RESYNC (R96). -/
def completeResync (s : State) : State :=
  match s.draw.engine with
  | .resyncing (some (r, mask)) p =>
    s.setDraw { s.draw.setBack (Plane.resync mask r s.draw.front s.draw.back) with
      engine := match p with
        | none => .idle
        | some p => .resyncing none (some p) }
  | .resyncing none _ | .idle | .drawing _ | .awaitFlip .. => s

/-- A flip of the held job: the roles are exchanged and the resync of its rectangle begins (R95). -/
def flipBuffers (s : State) : State :=
  match s.draw.engine with
  | .awaitFlip job p =>
    s.setDraw { s.draw with
      frontIsX := !s.draw.frontIsX
      engine := .resyncing (some (job.rect, s.settings.sceneProtect)) p }
  | .idle | .drawing _ | .resyncing .. => s

/-- A REBUILD is held in AWAIT_FLIP (R63). -/
def Draw.holdsRebuild (d : Draw) : Bool :=
  match d.engine with
  | .awaitFlip (.rebuild _) _ => true
  | .awaitFlip (.patch ..) _ | .idle | .drawing _ | .resyncing .. => false

/-- A PATCH is held in AWAIT_FLIP (R94). -/
def Draw.holdsPatch (d : Draw) : Bool :=
  match d.engine with
  | .awaitFlip (.patch ..) _ => true
  | .awaitFlip (.rebuild _) _ | .idle | .drawing _ | .resyncing .. => false

/-- The engine is IDLE (R162; in IDLE no panel job is in flight). -/
def Draw.isIdle (d : Draw) : Bool :=
  match d.engine with
  | .idle => true
  | .drawing _ | .awaitFlip .. | .resyncing .. => false

/-- A PATCH for the button is in DRAWING or waits in AWAIT_FLIP (R119). -/
def Draw.patchInProgress (d : Draw) (b : ButtonId) : Bool :=
  match d.engine with
  | .drawing (.scene (.patch c _) _ _) => c == b
  | .awaitFlip (.patch c _) _ => c == b
  | .drawing (.scene (.rebuild _) _ _) | .drawing (.panel _) | .drawing (.sceneClear _) | .awaitFlip (.rebuild _) _
  | .idle | .resyncing .. => false

/-! ## Scene flush (R98) -/

/-- A queued job as a flush leaves it: a scene job is removed, a panel job loses its mark. -/
def Job.afterFlush : Job → Option Job
  | .rebuild .. | .patch _ | .sceneClear => none
  | .panel p => some (.panel { p with clearFirst := false })

/-- A started panel job without the mark to clear first. -/
def RunningPanel.unmarked (p : RunningPanel) : RunningPanel :=
  { p with job := { p.job with clearFirst := false }, clear := none }

/-- The engine as a flush leaves it. -/
def Engine.afterFlush : Engine → Engine
  | .drawing (.panel p) => .drawing (.panel p.unmarked)
  | .awaitFlip _ (some p) => .drawing (.panel p)
  | .resyncing _ (some p) => .drawing (.panel p)
  | .idle | .drawing (.scene ..) | .drawing (.sceneClear _) | .awaitFlip _ none | .resyncing _ none => .idle

/-- The SCENE_CLEAR placed first, or joined to the head panel job when the queue is full (R92). -/
def placeSceneClear (q : List Job) : List Job :=
  if q.length < Config.drawQueueMax then .sceneClear :: q
  else
    match q with
    | .panel p :: rest => .panel { p with clearFirst := true } :: rest
    | .rebuild .. :: _ | .patch _ :: _ | .sceneClear :: _ | [] => q

/-- What a scene flush does to the Draw Engine (R98). -/
def Draw.flush (d : Draw) : Draw :=
  { d with queue := placeSceneClear (d.queue.filterMap Job.afterFlush), engine := d.engine.afterFlush }

end Sys2Proof.Machine
end

