-- ==== Sys2Proof/Machine/Navigation.lean ====
section
/-!
DEFINITION. The Navigation Unit (Chapter 6): making a table from a BUTTONS (R101, R102), the delivery of a table (R103 to
R106), key results and holds (R108, R114, R115), the serving of each key (R109 to R113), animation (R119), the page map
(R117) and the part of a scene flush that reaches it (R121).
-/

namespace Sys2Proof.Machine

/-! ## Tables (6.1) -/

/-- A button id that names a record of the same segment; any other reads as NONE (R101). -/
def presentId (ids : List Nat) (v : Nat) : Option ButtonId := if ids.contains v then idOf 48 v else none

/-- A button record with the corrections of R101, for scene size sw × sh; none when its Id is above 47. -/
def correctButton (sw sh : Nat) (ids : List Nat) (r : RawButton) : Option Button :=
  (idOf 48 r.id).map fun id =>
    let x := min r.x sw
    let y := min r.y sh
    let count := max 1 (min 16 r.animCount)
    { id
      lookObject := r.flags.getLsbD 0
      autoActivate := r.flags.getLsbD 1
      muted := r.flags.getLsbD 2
      numberActivates := r.flags.getLsbD 3
      hasAnim := r.flags.getLsbD 4 && decide (r.animFirst < 64)
      rect := { x, y, w := min r.w (sw - x), h := min r.h (sh - y) }
      up := presentId ids r.up
      down := presentId ids r.down
      left := presentId ids r.left
      right := presentId ids r.right
      number := if r.number ≤ 99 then r.number else 0
      command := r.command
      normalObj := (r.looks[0]?).bind (idOf 64)
      selectedObj := (r.looks[1]?).bind (idOf 64)
      activatedObj := (r.looks[2]?).bind (idOf 64)
      mutedObj := (r.looks[3]?).bind (idOf 64)
      animFirst := (idOf 64 r.animFirst).getD 0
      animCount := min count (64 - r.animFirst) }

/-- Inserts a button in ascending Id order (R100). -/
def insertButton (b : Button) : List Button → List Button
  | [] => [b]
  | c :: bs => if b.id < c.id then b :: c :: bs else c :: insertButton b bs

/-- The table made from a BUTTONS, or none when the segment is refused: Count above 48, an Id above 47, or two records
with one Id (R101). -/
def makeTable (sw sh default count : Nat) (raws : List RawButton) : Option Table :=
  let ids := raws.map RawButton.id
  if count ≤ 48 ∧ ids.Nodup ∧ ids.all (· < 48) then
    some { default := presentId ids default, buttons := (raws.filterMap (correctButton sw sh ids)).foldr insertButton [] }
  else none

/-- Places a table made for id `t` (R102): staged for the live table id, live for any other. -/
def Nav.placeTable (n : Nav) (t : TableId) (tbl : Table) : Nav :=
  let placed : TableStore :=
    if n.liveTable = some t then { n.tables.get t with staged := some tbl } else { live := tbl, staged := none }
  { n with tables := n.tables.set t placed }

/-! ## Results and holds (R108) -/

/-- Makes a key result into the result slot, with the LayoutNumber of the Front Layout record (R108). -/
def makeResult (code : KeyCode) (outcome : KeyOutcome) (button : Option ButtonId) (command : Word32) (s : State) :
    State :=
  s.setNav { s.nav with result := some { code, outcome, button, layout := s.sched.front.number, command } }

/-- The ACTIVATED result of a hold. -/
def makeHoldResult (h : ActivationHold) (s : State) : State :=
  makeResult h.code .activated (some h.button) h.command s

/-- The end of a hold (R108): the button becomes SELECTED with animation index 0 and the result is made. -/
def endHold (h : ActivationHold) (s : State) : State :=
  makeHoldResult h (s.setNav { s.nav.setState h.button .selected with hold := none, anim := 0 })

/-! ## Delivery (6.2) -/

/-- A button of the table that is not MUTED. -/
def Table.selectable (t : Table) (b : ButtonId) : Bool :=
  match t.button b with
  | some x => !x.muted
  | none => false

/-- The first of the candidates that is selectable. -/
def Table.firstSelectable (t : Table) (cs : List (Option ButtonId)) : Option ButtonId :=
  (cs.filterMap id).find? t.selectable

/-- The new Selection at a delivery of a table (R104). -/
def chooseSelection (t : Table) (changed : Bool) (initial : Byte) (old : Option ButtonId) : Option ButtonId :=
  match t.firstSelectable [idOf 48 initial.toNat] with
  | some b => some b
  | none =>
    if changed then
      t.firstSelectable ([t.default, old] ++ t.buttons.map fun b => some b.id)
    else old

/-- The states at a delivery: base states, the Selection SELECTED (R105). -/
def freshStates (t : Table) (sel : Option ButtonId) : List (ButtonId × ButtonState) :=
  t.buttons.map fun b => (b.id, if sel = some b.id then .selected else b.base)

/-- The store after the staged copy of `t`, if any, has gone live (R103, step 1). -/
def Nav.applyStaged (n : Nav) (t : TableId) : Nav :=
  match (n.tables.get t).staged with
  | some tbl => { n with tables := n.tables.set t { live := tbl, staged := none } }
  | none => n

/-- The delivery of a table id or NONE with the layout's Initial (R103 to R106). The Front Layout record has already
changed. That the animation index becomes 0 where the delivery leaves no Selection is the model's choice (log 27). -/
def deliver (u : Option TableId) (initial : Byte) (s : State) : State :=
  let applied := match u with
    | some t => (s.nav.tables.get t).staged.isSome
    | none => false
  let changed := applied || decide (u ≠ s.nav.liveTable)
  let n1 := match u with
    | some t => s.nav.applyStaged t
    | none => s.nav
  let n2 := { n1 with liveTable := u }
  let sel := match u with
    | some _ => chooseSelection n2.table changed initial s.nav.selection
    | none => none
  if changed || decide (sel ≠ s.nav.selection) then
    let s1 := s.setNav { n2 with selection := sel, states := freshStates n2.table sel, anim := 0, hold := none }
    match s.nav.hold with
    | some h => makeHoldResult h s1
    | none => s1
  else s.setNav n2

/-! ## Serving keys (6.3, 6.4) -/

/-- The conditions under which an unmarked key is served by its code (R109). -/
def servesKeys (s : State) : Bool :=
  s.nav.hold.isNone && s.nav.result.isNone && s.draw.room 2 &&
  match s.output.state with
  | .live | .off | .draining => true
  | .frozen | .standby | .waking | .fault => false

/-- The head key is answered UNUSED with nothing else changing: marked, or served in FAULT (R109). -/
def servesUnused (k : Key) (s : State) : Bool :=
  s.nav.result.isNone &&
  (if k.marked then decide (s.output.state ≠ .standby) && decide (s.output.state ≠ .waking)
   else s.nav.hold.isNone && decide (s.output.state = .fault))

/-- A key answered UNUSED: the result carries the Selection as it stands (R108). -/
def answerUnused (code : KeyCode) (s : State) : State := makeResult code .unused s.nav.selection 0 s

/-- The neighbour in a key's direction (R111). -/
def Button.neighbour (b : Button) : KeyCode → Option ButtonId
  | .up => b.up
  | .down => b.down
  | .left => b.left
  | .right => b.right
  | .ok | .number => none

/-- A walk of at most `fuel` hops from button `cur`, started at `start`: the button found, or none for STAYED (R111). -/
def walk (t : Table) (code : KeyCode) (start : ButtonId) : Nat → ButtonId → Option ButtonId
  | 0, _ => none
  | n + 1, cur =>
    match (t.button cur).bind (Button.neighbour · code) with
    | none => none
    | some b =>
      if b = start then none
      else
        match t.button b with
        | some btn => if btn.muted then walk t code start n b else some b
        | none => none

/-- The start of an activation (R114); with ACTIVATE_HOLD 0 the hold ends at once. -/
def startActivation (code : KeyCode) (b : Button) (s : State) : State :=
  let h : ActivationHold := { button := b.id, counter := s.settings.activateHold, code, command := b.command }
  let s1 := requestLook b.id (s.setNav { s.nav.setState b.id .activated with hold := some h })
  if h.counter = 0 then endHold h s1 else s1

/-- The Selection's button takes its base state, if there is a Selection (R113, step 1). -/
def Nav.deselect (n : Nav) : Nav :=
  match n.selection.bind n.table.button with
  | some a => n.setState a.id a.base
  | none => n

/-- Steps 1 to 4 of a change of the Selection to `b` (R113). -/
def changeSelection (b : Button) (s : State) : State :=
  let s1 := s.setNav { (s.nav.deselect).setState b.id .selected with anim := 0, selection := some b.id }
  let s2 := match s.nav.selection with
    | some a => requestLook a s1
    | none => s1
  requestLook b.id s2

/-- A directional key served (R110, R111, R113). -/
def serveDirectional (code : KeyCode) (s : State) : State :=
  match s.nav.selection with
  | none => answerUnused code s
  | some a =>
    match (walk s.nav.table code a Config.walkHops a).bind s.nav.table.button with
    | some b =>
      let s1 := changeSelection b s
      if b.autoActivate then startActivation code b s1 else makeResult code .moved (some b.id) 0 s1
    | none => makeResult code .stayed (some a) 0 s

/-- An OK key served (R112). -/
def serveOk (s : State) : State :=
  match s.nav.selection.bind s.nav.table.button with
  | some b => startActivation .ok b s
  | none => answerUnused .ok s

/-- A NUMBER key served (R112): the lowest-Id button that is not MUTED and has this Number. -/
def serveNumber (n : Byte) (s : State) : State :=
  match s.nav.table.buttons.find? fun b => decide (n ≠ 0) && b.number == n.toNat && !b.muted with
  | none => answerUnused .number s
  | some b =>
    let moves := decide (s.nav.selection ≠ some b.id)
    let s1 := if moves then changeSelection b s else s
    if b.numberActivates || b.autoActivate then startActivation .number b s1
    else makeResult .number (if moves then .moved else .stayed) (some b.id) 0 s1

/-- Takes the head key from the Key Queue if `p` holds of it, and serves it with `f`. Every key served while the live
table id is NONE is answered UNUSED (6.4). -/
def serveHead (p : Key → Bool) (f : Key → State → State) (s : State) : State :=
  match s.nav.keys with
  | [] => s
  | k :: rest => if p k then f k (s.setNav { s.nav with keys := rest }) else s

/-- Serves by key code, or UNUSED when no table is live (6.4). -/
def withTable (code : KeyCode) (f : State → State) (s : State) : State :=
  if s.nav.liveTable.isSome then f s else answerUnused code s

/-! ## Animation (R119) -/

/-- A Tap A tick that is not at a frozen frame start. -/
def animate (s : State) : State :=
  match s.nav.selection.bind s.nav.table.button with
  | some b =>
    if decide (s.nav.stateOf b.id = .selected) && b.lookObject && b.hasAnim then
      if s.draw.hasPatch b.id || s.sched.backlog.contains b.id || s.draw.patchInProgress b.id then s
      else requestPatch b.id (s.setNav { s.nav with anim := (s.nav.anim + 1) % b.animCount })
    else s
  | none => s

/-- The disabling of Tap A: an index other than 0 returns to 0 and a PATCH is asked for (R119). -/
def stopAnimation (s : State) : State :=
  if s.nav.anim = 0 then s
  else
    match s.nav.selection with
    | some b => requestLook b (s.setNav { s.nav with anim := 0 })
    | none => s.setNav { s.nav with anim := 0 }

/-! ## Page map (R117) -/

/-- The palette page of a state (R105). -/
def ButtonState.page : ButtonState → Nat
  | .normal => 0 | .selected => 1 | .activated => 2 | .muted => 3

/-- The page map: the rectangles of the buttons that are not NORMAL, in ascending Id order, with their pages. -/
def Nav.pageMap (n : Nav) : List (Rect × Nat) :=
  n.table.buttons.filterMap fun b =>
    if (n.stateOf b.id).page = 0 then none else some (b.rect, (n.stateOf b.id).page)

/-- The page at a scene point: that of the deciding button (R117). -/
def pageAt (m : List (Rect × Nat)) (x y : Nat) : Nat :=
  match m.find? fun p => p.1.has x y with
  | some p => p.2
  | none => 0

/-! ## Scene flush (R121) -/

/-- What a scene flush does to the Navigation Unit; the Front Layout record has already been reset. -/
def flushNav (s : State) : State :=
  let s1 := match s.nav.hold with
    | some h => makeHoldResult h s
    | none => s
  s1.setNav { s1.nav with
    tables := resetNav.tables, liveTable := none, states := [], selection := none, hold := none, anim := 0
    keys := s1.nav.keys.map fun k => { k with marked := true } }

end Sys2Proof.Machine
end

