-- ==== Sys2Proof/Machine/Palettes.lean ====
section
/-!
DEFINITION. The Palette Table (Chapter 3): merging a PALETTE into a staged copy (R46, R47), going live (R48), panel
colours (R53, R54) and the clearing of a scene flush (R45).
-/

namespace Sys2Proof.Machine

/-- The state with another content of scene palette `p`. -/
def setPalette (p : PaletteId) (v : ScenePalette) (s : State) : State := s.setPalettes (s.palettes.set p v)

/-- The entry at a Slot of a palette copy (R44). -/
def paletteEntry (m : Sparse Entry) (slot : Nat) : Entry := Sparse.get clearEntry m slot

/-- Writes entries in order, skipping those with a Slot above 1023 (R46, steps 3 and 4). -/
def writeEntries : List (Nat × Entry) → Sparse Entry → Sparse Entry
  | [], m => m
  | (slot, e) :: es, m => writeEntries es (if slot < 1024 then Sparse.set clearEntry m slot e else m)

/-- A PALETTE for palette `p` (R46, R47). Base 0 is MERGE, 1 is CLEAR; any other refuses the segment. -/
def mergePalette (p : PaletteId) (g : Segment) (s : State) : State :=
  let base := u8 g.payload 0
  if base < 2 then
    let pal := s.palettes.get p
    let start : Sparse Entry :=
      if base = 1 then []
      else match pal.staged with
        | some (m, _) => m
        | none => pal.live
    let entries := paletteEntries (u16 g.payload 2) (g.payload.drop 4)
    let target : StagedTarget := if isImmediate g.header then .immediate else .frame g.header.target
    let s1 := setPalette p { pal with staged := some (writeEntries entries start, target) } s
    if entries.all fun e => decide (e.1 < 1024) then s1 else raise .segBad s1
  else raise .segBad s

/-- The staged target is due at frame number `fc` (3.3). -/
def StagedTarget.due (fc : Word16) : StagedTarget → Bool
  | .frame t => Machine.due fc t
  | .immediate => true

/-- R48 for one palette at a frame start. -/
def paletteGoesLive (p : PaletteId) (s : State) : State :=
  let pal := s.palettes.get p
  match pal.staged with
  | some (m, t) =>
    if t.due s.raster.fc && !frozenFrame s then setPalette p { live := m, staged := none } s else s
  | none => s

/-- R54: entries 1 to 15 of the shown copy take the written values; entry 0 is fixed. -/
def showPanelColours (s : State) : State :=
  s.setPanel { s.panel with shown := s.panel.written.set 0 (s.panel.shown.get 0) }

/-- The entry a PANEL_COLOUR value carries: Y, Cb, Cr, A from the most significant byte (12.3). -/
def entryOfValue (v : Word32) : Entry :=
  ⟨(v >>> 24).setWidth 8, (v >>> 16).setWidth 8, (v >>> 8).setWidth 8, v.setWidth 8⟩

end Sys2Proof.Machine
end

