-- ==== Sys2Proof/Machine/Scheduling.lean ====
section
/-!
DEFINITION. The Layout Scheduler (Chapter 4): layout records (R56), drawability and submission (R58 to R61), the flip
(R63, R64), UPDATE application (R66, R67), fades (R70 to R72), the scene flush (R74) and scene opening (R75, R76).
-/

namespace Sys2Proof.Machine

/-! ## Layout records -/

def layoutKind : Nat → Option LayoutKind
  | 0 => some .full | 1 => some .update | 2 => some .erase | _ => none

def fadeKind : Nat → Option Fade
  | 0 => some .none | 1 => some .fadeIn | 2 => some .fadeOut | _ => none

/-- A table id field: 0xFF is NONE, 0..3 an id, other codes are refused (R56). -/
def tableField (v : Nat) : Option (Option TableId) :=
  if v = 0xFF then some none else (idOf 4 v).map some

/-- The effective target of a LAYOUT taken at frame number `fc` (R55). -/
def effectiveTarget (fc : Word16) (h : Header) : Word16 := if isImmediate h then fc + 1 else h.target

/-- A placement kept in the record; one whose object id is above 63 is dropped (R56). -/
def keepPlacement (r : RawPlacement) : Option Placement :=
  (idOf 64 r.object).map fun o => { object := o, keyed := r.keyed, crop := r.crop, x := r.x, y := r.y }

/-- The record of a LAYOUT and whether every placement was kept, or none when the segment is refused (R56). -/
def layoutRecord (fc : Word16) (g : Segment) : Option (LayoutRecord × Bool) :=
  let p := g.payload
  match layoutKind (u8 p 2), idOf 8 (u8 p 3), tableField (u8 p 4), fadeKind (u8 p 6),
      (if u8 p 7 ≤ 32 then rawPlacements (u8 p 7) (p.drop 8) else none) with
  | some kind, some palette, some table, some fade, some raws =>
    let kept := raws.filterMap keepPlacement
    some
      ({ number := BitVec.ofNat 16 (u16 p 0), kind, palette
         table := if kind = .erase then none else table
         initial := p.getD 5 0, fade, target := effectiveTarget fc g.header
         placements := if kind = .erase then [] else kept },
       raws.all fun r => decide (r.object < 64))
  | _, _, _, _, _ => none

/-! ## Drawability and submission -/

/-- The objects of a button that its table makes a layout reference (R58). -/
def Button.objects (b : Button) : List ObjectId :=
  (if b.lookObject then [b.normalObj, b.selectedObj, b.activatedObj, b.mutedObj].filterMap (fun o => o) else []) ++
  (if b.hasAnim then (List.range b.animCount).filterMap fun i => idOf 64 (b.animFirst.val + i) else [])

/-- The objects a layout references (R58). -/
def referencedObjects (n : Nav) (r : LayoutRecord) : List ObjectId :=
  let placed := if r.kind = .full then r.placements.map Placement.object else []
  match r.kind, r.table with
  | .full, some t | .update, some t => placed ++ (n.effectiveTable t).buttons.flatMap Button.objects
  | .full, none | .update, none => placed
  | .erase, _ => []

/-- The layout is drawable: no referenced object is still on its way (R58). -/
def drawable (s : State) (r : LayoutRecord) : Bool :=
  (referencedObjects s.nav r).all fun o => !(s.objects.slot o).onItsWay

/-- The record is due and its lateness has reached LATE_LIMIT (R60). -/
def lateEnough (s : State) (r : LayoutRecord) : Bool :=
  due s.raster.fc r.target && decide (s.settings.lateLimit ≤ lateness s.raster.fc r.target)

/-- The conditions of R59 for the head record. -/
def submits (s : State) (r : LayoutRecord) : Bool :=
  decide (r.kind ≠ .update) && (drawable s r || lateEnough s r)
    && (due s.raster.fc r.target || decide (distanceAhead s.raster.fc r.target ≤ s.settings.lead))
    && s.sched.back.isNone && !s.draw.sceneBusy && s.draw.room 1 && s.sched.backlog.isEmpty && s.output.state.working

/-- LAYOUT_SUBMISSION (R61), forced when the record is not drawable (R60). -/
def submitLayout (s : State) : State :=
  match s.sched.queue with
  | [] => s
  | r :: rest =>
    if submits s r then
      let s1 := (s.setSched { s.sched with queue := rest, back := some r }).setDraw
        { s.draw with queue := s.draw.queue ++ [.rebuild r.placements r.table s.sched.scene.area] }
      if drawable s r then s1 else raise .layoutForced s1
    else s

/-! ## Fades -/

/-- The fade a layout starts (R71). -/
def startFade (f : Fade) (s : State) : State :=
  match f with
  | .none => s.setSched { s.sched with fade := 16, fadeDir := .none }
  | .fadeIn =>
    if s.divider.tapB.enabled then s.setSched { s.sched with fade := 0, fadeDir := .fadeIn }
    else s.setSched { s.sched with fade := 16, fadeDir := .none }
  | .fadeOut =>
    if s.divider.tapB.enabled then s.setSched { s.sched with fadeDir := .fadeOut }
    else s.setSched { s.sched with fade := 0, fadeDir := .none }

/-- One step of a running fade at a Tap B tick (R72); F stays within 0..16. -/
def stepFade (s : State) : State :=
  match s.sched.fadeDir with
  | .none => s
  | .fadeIn => s.setSched { s.sched with fade := min 16 (s.sched.fade + 1) }
  | .fadeOut => s.setSched { s.sched with fade := s.sched.fade - 1 }

/-- The completion of a fade whose Tap B is disabled (R72). -/
def completeFade (s : State) : State :=
  match s.sched.fadeDir with
  | .none => s
  | .fadeIn => s.setSched { s.sched with fade := 16, fadeDir := .none }
  | .fadeOut => s.setSched { s.sched with fade := 0, fadeDir := .none }

/-- FADE_END (R72) at a frame start that is not frozen: a fade that a tick has brought to 16 or 0 ends, and one whose Tap B
is disabled completes. -/
def endFade (s : State) : State :=
  if frozenFrame s then s
  else if !s.divider.tapB.enabled then completeFade s
  else
    match s.sched.fadeDir with
    | .none => s
    | .fadeIn => if s.sched.fade = 16 then s.setSched { s.sched with fadeDir := .none } else s
    | .fadeOut => if s.sched.fade = 0 then s.setSched { s.sched with fadeDir := .none } else s

/-! ## Flip and UPDATE -/

/-- Raises LAYOUT_LATE for a layout shown with d above 0 (R65). -/
def reportLate (r : LayoutRecord) (s : State) : State :=
  if 0 < lateness s.raster.fc r.target then raise .layoutLate s else s

/-- The conditions of R63 at the frame start, for the Back Layout record. -/
def flips (s : State) (r : LayoutRecord) : Bool :=
  s.draw.holdsRebuild && due s.raster.fc r.target &&
  match s.output.state with
  | .live | .off | .draining => true
  | .frozen | .standby | .waking | .fault => false

/-- The request of R95 after a REBUILD's flip: a PATCH for the Selection's button, when the layout names a table. -/
def patchSelection (t : Option TableId) (s : State) : State :=
  match t, s.nav.selection with
  | some _, some b => requestLook b s
  | some _, none => s
  | none, _ => s

/-- The flip of a REBUILD (R64, R95). -/
def flipLayout (r : LayoutRecord) (s : State) : State :=
  let s1 := flipBuffers s
  let s2 := s1.setSched { s1.sched with
    back := none
    front := { number := r.number, palette := r.palette, table := r.table, placements := r.placements } }
  reportLate r (patchSelection r.table (startFade r.fade (deliver r.table r.initial s2)))

/-- The conditions of R66 for the head record at the frame start. -/
def applies (s : State) (r : LayoutRecord) : Bool :=
  decide (r.kind = .update) && due s.raster.fc r.target && (drawable s r || lateEnough s r) && s.sched.back.isNone
    && s.sched.backlog.isEmpty &&
  match s.output.state with
  | .live | .off => true
  | .frozen | .draining | .standby | .waking | .fault => false

/-- The patches of R67: one for every LOOK_OBJECT button of the delivered table, in ascending id order. -/
def patchButtons : List Button → State → State
  | [], s => s
  | b :: bs, s => patchButtons bs (if b.lookObject then requestPatch b.id s else s)

/-- The application of the head UPDATE record `r` (R66, R67). -/
def applyUpdate (r : LayoutRecord) (rest : List LayoutRecord) (s : State) : State :=
  let forced := !drawable s r
  let s1 := s.setSched { s.sched with
    queue := rest
    front := { s.sched.front with number := r.number, palette := r.palette, table := r.table } }
  let s2 := startFade r.fade (deliver r.table r.initial s1)
  let s3 := patchButtons s2.nav.table.buttons s2
  reportLate r (if forced then raise .layoutForced s3 else s3)

/-! ## Scene -/

/-- A scene flush: every scene store is emptied in one event (R74). -/
def sceneFlush (s : State) : State :=
  let s1 := s.setSched { resetSched with scene := s.sched.scene }
  let s2 := (s1.setObjects resetObjects).setPalettes resetPalettes
  let s3 := flushNav s2
  s3.setDraw s3.draw.flush

/-- One coordinate of the origin (R76): AUTO centres, a negative result becoming 0. -/
def originCoord (setting : Option Nat) (raster size : Nat) : Nat :=
  match setting with
  | none => (raster - size) / 2
  | some v => v

/-- A SCENE_OPEN (R75, R76). Mode 0 is FRESH, 1 is CONTINUE; any other refuses the segment. -/
def openScene (g : Segment) (s : State) : State :=
  let number : Word16 := BitVec.ofNat 16 (u16 g.payload 0)
  let mode := u8 g.payload 2
  let w := clamp 16 Config.planeWidth (u16 g.payload 4)
  let h := clamp 16 Config.planeHeight (u16 g.payload 6)
  if mode = 1 ∧ w = s.sched.scene.w ∧ h = s.sched.scene.h then
    s.setSched { s.sched with scene := { s.sched.scene with number } }
  else if mode < 2 then
    let s1 := sceneFlush s
    s1.setSched { s1.sched with
      scene := { number, w, h, ox := originCoord s.settings.originX s.raster.width w,
                 oy := originCoord s.settings.originY s.raster.height h } }
  else raise .segBad s

end Sys2Proof.Machine
end

