-- ==== Sys2Proof/Machine/Stills.lean ====
section
/-!
DEFINITION. The Still Unit (Chapter 7): capture (R126 to R128), transitions (R129 to R131), pans (R132 to R134) and the
entry into DRAINING (R135).
-/

namespace Sys2Proof.Machine

/-- Applies a function to both still buffers. -/
def Still.mapBuffers (st : Still) (f : StillBuffer → StillBuffer) : Still :=
  { st with buffers := #v[f (st.buffers.get 0), f (st.buffers.get 1)] }

/-- The buffer is CAPTURING (R123). -/
def StillBuffer.capturing : StillBuffer → Bool
  | .waiting | .copying .. => true
  | .empty | .valid .. | .invalid => false

/-- A capture is in flight (R126). -/
def Still.captureInFlight (st : Still) : Bool := (st.buffers.get 0).capturing || (st.buffers.get 1).capturing

/-- The captured size (R123). -/
def StillBuffer.size : StillBuffer → Nat × Nat
  | .valid w h _ => (w, h)
  | .empty | .waiting | .copying .. | .invalid => (0, 0)

/-- The captured size of the shown still; 0 × 0 for VIDEO. -/
def Still.shownSize (st : Still) : Nat × Nat :=
  match st.shown with
  | .video => (0, 0)
  | .still b => (st.buffers.get b).size

/-- Records the Last Still Result (R125). -/
def recordStill (r : StillResult) (s : State) : State := s.setStill { s.still with last := r }

/-- A refusal: its result and STILL_FAIL (R125). -/
def refuseStill (r : StillResult) (s : State) : State := raise .stillFail (recordStill r s)

/-! ## Capture -/

/-- Buffer `b` is shown, or the old or new source of a transition under way (R126, test 2). -/
def Still.inUse (st : Still) (b : Fin 2) : Bool :=
  decide (st.shown = .still b) ||
  match st.transition with
  | some t => decide (t.old = .still b) || decide (t.new = .still b)
  | none => false

/-- A CAPTURE into buffer `b` (R126). -/
def startCapture (b : Fin 2) (s : State) : State :=
  if s.output.state = .draining ∨ s.output.state = .fault then refuseStill .halted s
  else if s.still.inUse b then refuseStill .shown s
  else if s.still.captureInFlight then refuseStill .busy s
  else if s.raster.mode = .internal then refuseStill .noVideo s
  else s.setStill { s.still with last := .accepted, buffers := s.still.buffers.set b .waiting }

/-- The pixels of the Video In frame that has been received are in the buffer that copies it (R127). -/
def StillBuffer.receive (rows : List (List Colour)) : StillBuffer → StillBuffer
  | .copying w h _ => .copying w h rows
  | .empty => .empty
  | .waiting => .waiting
  | .valid w h r => .valid w h r
  | .invalid => .invalid

/-- A waiting capture begins copying and notes the raster size (R127). -/
def StillBuffer.beginCopy (w h : Nat) : StillBuffer → StillBuffer
  | .waiting => .copying w h []
  | .copying w h r => .copying w h r
  | .empty => .empty
  | .valid w h r => .valid w h r
  | .invalid => .invalid

/-- A copying capture completes VALID with the noted size (R127). -/
def StillBuffer.complete : StillBuffer → StillBuffer
  | .copying w h r => .valid w h r
  | .waiting => .waiting
  | .empty => .empty
  | .valid w h r => .valid w h r
  | .invalid => .invalid

/-- A capture in flight ends INVALID at a loss of video (R128). -/
def StillBuffer.lose : StillBuffer → StillBuffer
  | .waiting | .copying .. => .invalid
  | .empty => .empty
  | .valid w h r => .valid w h r
  | .invalid => .invalid

def StillBuffer.isCopying : StillBuffer → Bool
  | .copying .. => true
  | .empty | .waiting | .valid .. | .invalid => false

def StillBuffer.isWaiting : StillBuffer → Bool
  | .waiting => true
  | .empty | .copying .. | .valid .. | .invalid => false

def Still.anyCopying (st : Still) : Bool := (st.buffers.get 0).isCopying || (st.buffers.get 1).isCopying

def Still.anyWaiting (st : Still) : Bool := (st.buffers.get 0).isWaiting || (st.buffers.get 1).isWaiting

/-- COPYING_PHASE_START at a frame start (R127). -/
def beginCopying (s : State) : State :=
  s.setStill (s.still.mapBuffers (StillBuffer.beginCopy s.raster.width s.raster.height))

/-- CAPTURE_COMPLETION (R127). -/
def completeCapture (s : State) : State :=
  if s.still.anyCopying then raise .captureDone (s.setStill (s.still.mapBuffers StillBuffer.complete)) else s

/-- A loss of video as it reaches the Still Unit (R128). -/
def loseCapture (s : State) : State :=
  if s.still.captureInFlight then refuseStill .lost (s.setStill (s.still.mapBuffers StillBuffer.lose)) else s

/-! ## Transitions -/

def transitionKind : Nat → Option TransitionKind
  | 0 => some .cut | 1 => some .dissolve | 2 => some .wipeAcross | 3 => some .wipeDown | _ => none

/-- The source a SHOW's Tag names (12.3). -/
def sourceOfTag (tag : Byte) : Source :=
  if tag = 1 then .still 0 else if tag = 2 then .still 1 else .video

/-- The completion of a transition (R131). -/
def completeTransition (s : State) : State :=
  match s.still.transition with
  | none => s
  | some t =>
    raise .stillDone (s.setStill { s.still with pan := none, shown := t.new, view := resetView, transition := none })

/-- The source may be shown: VIDEO, or a still whose buffer is VALID (R129). -/
def Still.showable (st : Still) : Source → Bool
  | .video => true
  | .still b =>
    match st.buffers.get b with
    | .valid .. => true
    | .empty | .waiting | .copying .. | .invalid => false

/-- The duration D of an accepted SHOW (R129). -/
def showDuration (kind : TransitionKind) (duration : Nat) : Nat :=
  match kind with
  | .cut => 1
  | .dissolve | .wipeAcross | .wipeDown => clamp 1 255 duration

/-- A SHOW of source `n` (R129). -/
def showNew (n : Source) (kindCode duration : Nat) (s : State) : State :=
  match transitionKind kindCode with
  | none => raise .segBad s
  | some kind =>
    if s.still.showable n then
      let s1 := completeTransition (recordStill .accepted s)
      let t : Transition := { kind, old := s1.still.shown, new := n, d := showDuration kind duration, k := 0 }
      let s2 := s1.setStill { s1.still with transition := some t }
      if s.output.state = .draining then completeTransition s2 else s2
    else refuseStill .notValid s

/-- One step of a transition at a frame start that is not frozen (R130). -/
def stepTransition (s : State) : State :=
  match s.still.transition with
  | some t =>
    if t.k < t.d ∧ ¬ frozenFrame s then s.setStill { s.still with transition := some { t with k := t.k + 1 } } else s
  | none => s

/-- TRANSITION_COMPLETION at a frame start: the step count has reached D (R130, R131). -/
def endTransition (s : State) : State :=
  match s.still.transition with
  | some t => if t.d ≤ t.k ∧ ¬ frozenFrame s then completeTransition s else s
  | none => s

/-! ## Pans -/

/-- `a` moved `i` of `n` steps towards `b`, the quotient truncated toward zero (R133). -/
def panValue (a b i n : Nat) : Int := (a : Int) + Int.tdiv (((b : Int) - a) * i) n

/-- The view at step `i` of a pan over a still of captured size (cw, ch) (R133). -/
def panView (p : PanRecord) (cw ch i : Nat) : View :=
  { wx := min (panValue p.x0 p.x1 i p.n).toNat (cw - 1)
    wy := min (panValue p.y0 p.y1 i p.n).toNat (ch - 1)
    z := (panValue p.zs p.ze i p.n).toNat }

/-- The view of the shown still at step `i` of a pan. -/
def Still.viewAt (st : Still) (p : PanRecord) (i : Nat) : View := panView p st.shownSize.1 st.shownSize.2 i

/-- A pan jumps to its end: the view at step N, the record dropped, STILL_DONE (R132, R134). -/
def jumpPan (s : State) : State :=
  match s.still.pan with
  | none => s
  | some p => raise .stillDone (s.setStill { s.still with view := s.still.viewAt p p.n, pan := none })

/-- A PAN (R132): corners, Zoom and Steps as sent. -/
def startPan (x0 y0 x1 y1 zoom steps : Nat) (s : State) : State :=
  match s.still.shown with
  | .video => refuseStill .noStill s
  | .still _ =>
    let p : PanRecord :=
      { x0, y0, x1, y1, zs := s.still.view.z, ze := clamp 1 8 zoom, n := clamp 1 1024 steps, i := 0 }
    let s1 := s.setStill { s.still with last := .accepted, pan := some p, view := s.still.viewAt p 0 }
    if s.output.state = .draining ∨ (s.divider.tapB.enabled = false ∧ s.output.state ≠ .frozen) then jumpPan s1 else s1

/-- One step of a running pan at a Tap B tick (R134). -/
def stepPan (s : State) : State :=
  match s.still.pan with
  | some p =>
    if p.i < p.n then
      s.setStill { s.still with pan := some { p with i := p.i + 1 }, view := s.still.viewAt p (p.i + 1) }
    else s
  | none => s

/-- PAN_END: the step count has reached N (R134). -/
def endPan (s : State) : State :=
  match s.still.pan with
  | some p => if p.n ≤ p.i then raise .stillDone (s.setStill { s.still with pan := none }) else s
  | none => s

/-- PAN_JUMP_TO_END at a frame start that is not frozen, while Tap B is disabled (R134). -/
def jumpWaitingPan (s : State) : State :=
  if !s.divider.tapB.enabled && !frozenFrame s then jumpPan s else s

/-- The Still Unit at the entry into DRAINING: a pan jumps to its end, then a transition completes (R135). -/
def drainStills (s : State) : State := completeTransition (jumpPan s)

end Sys2Proof.Machine
end

