-- ==== Sys2Proof/Machine/Settings.lean ====
section
/-!
DEFINITION. The settings (R53, R155, R156, R176, R177): what each SET pair writes, and a SET under way pair by pair
(log 5).
-/

namespace Sys2Proof.Machine

/-! ## What each setting writes (R177) -/

def writeEventEnable (v : Word32) (s : State) : State := s.setEvents { s.events with enables := v.setWidth 16 }

def writeGlobalEnable (v : Word32) (s : State) : State := s.setEvents { s.events with globalEnable := decide (v ≠ 0) }

def writeSeverity (v : Word32) (s : State) : State := s.setEvents { s.events with fatal := v.setWidth 3 }

/-- A tap code: above 7 reads as 7 (R177). -/
def tapCodeOf (v : Word32) : BitVec 3 := if 7 < v.toNat then 7 else v.setWidth 3

/-- A code written to a tap (R155). -/
def Tap.write (running : Bool) (c : BitVec 3) (t : Tap) : Tap :=
  if t.enabled && running then
    if c = t.code then { t with buffered := none } else { t with buffered := some c }
  else { t with code := c, buffered := none }

def writeTapACode (v : Word32) (s : State) : State :=
  s.setDivider { s.divider with tapA := s.divider.tapA.write s.divider.running (tapCodeOf v) }

def writeTapBCode (v : Word32) (s : State) : State :=
  s.setDivider { s.divider with tapB := s.divider.tapB.write s.divider.running (tapCodeOf v) }

/-- A tap's enable is set: on a change to disabled its buffered code becomes active at once (R156). -/
def Tap.setEnable (on : Bool) (t : Tap) : Tap :=
  if t.enabled && !on then { code := t.buffered.getD t.code, buffered := none, enabled := false }
  else { t with enabled := on }

/-- Both enables are set (R156): with both taps disabled the count is 0 and stopped, and an enabling while it is stopped
restarts it from 0. -/
def Divider.setEnables (a b : Bool) (d : Divider) : Divider :=
  let stopped := !a && !b
  let restarts := !d.running && ((a && !d.tapA.enabled) || (b && !d.tapB.enabled))
  { count := if stopped || restarts then 0 else d.count
    running := if stopped then false else (d.running || restarts)
    tapA := d.tapA.setEnable a
    tapB := d.tapB.setEnable b }

/-- A TAP_ENABLE pair, with what the consumers of a tap that is now disabled do (R72, R119, R134, R156). -/
def writeTapEnable (v : Word32) (s : State) : State :=
  let a := v.getLsbD 0
  let b := v.getLsbD 1
  let s1 := s.setDivider (s.divider.setEnables a b)
  let s2 := if s.divider.tapA.enabled && !a then stopAnimation s1 else s1
  if s.divider.tapB.enabled && !b && decide (s.output.state ≠ .frozen) then jumpPan (completeFade s2) else s2

def writeActivateHold (v : Word32) (s : State) : State :=
  s.setSettings { s.settings with activateHold := min 255 v.toNat }

def writeLateLimit (v : Word32) (s : State) : State := s.setSettings { s.settings with lateLimit := min 255 v.toNat }

def writeLead (v : Word32) (s : State) : State := s.setSettings { s.settings with lead := min 15 v.toNat }

def writeSceneProtect (v : Word32) (s : State) : State :=
  s.setSettings { s.settings with sceneProtect := v.setWidth 12 }

def writePanelProtect (v : Word32) (s : State) : State :=
  s.setSettings { s.settings with panelProtect := v.setWidth 12 }

def writeInternalWidth (v : Word32) (s : State) : State :=
  s.setSettings { s.settings with internalWidth := clamp 16 Config.planeWidth v.toNat }

def writeInternalHeight (v : Word32) (s : State) : State :=
  s.setSettings { s.settings with internalHeight := clamp 16 Config.planeHeight v.toNat }

def writeInternalRate (v : Word32) (s : State) : State :=
  s.setSettings { s.settings with internalRate := if v.toNat ≤ 55 then .fps50 else .fps60 }

/-- An origin coordinate: 0xFFFFFFFF is AUTO, any other value is clamped to `hi` (12.3). -/
def originOf (hi : Nat) (v : Word32) : Option Nat := if v = 0xFFFFFFFF then none else some (min hi v.toNat)

def writeSceneOriginX (v : Word32) (s : State) : State :=
  s.setSettings { s.settings with originX := originOf (Config.planeWidth - 1) v }

def writeSceneOriginY (v : Word32) (s : State) : State :=
  s.setSettings { s.settings with originY := originOf (Config.planeHeight - 1) v }

def writeBorderColour (v : Word32) (s : State) : State :=
  s.setSettings { s.settings with border := ⟨(entryOfValue v).y, (entryOfValue v).cb, (entryOfValue v).cr⟩ }

/-- A panel colour: entry n of the written copy, n the Setting id less 0x20 (R53). -/
def writePanelColour (id : Byte) (v : Word32) (s : State) : State :=
  s.setPanel { s.panel with written := s.panel.written.set (id.toNat % 16) (entryOfValue v) (Nat.mod_lt _ (by decide)) }

/-! ## Setting ids (11.2) -/

def isPanelColour (id : Byte) : Bool := decide (0x21 ≤ id.toNat) && decide (id.toNat ≤ 0x2F)

/-- The ids that name no setting: 0x00, 0x12 to 0x1F and 0x30 to 0xFF (R176). -/
def isUnknown (id : Byte) : Bool :=
  decide (id.toNat = 0) || (decide (0x12 ≤ id.toNat) && decide (id.toNat ≤ 0x1F)) || decide (0x30 ≤ id.toNat)

/-- The write of a pair by its Setting id; a pair with an unknown id is skipped, and PANEL_COLOUR_0 has no effect
(R176). -/
def applySetting (p : SetPair) (s : State) : State :=
  match p.id.toNat with
  | 0x01 => writeEventEnable p.value s
  | 0x02 => writeGlobalEnable p.value s
  | 0x03 => writeSeverity p.value s
  | 0x04 => writeTapACode p.value s
  | 0x05 => writeTapBCode p.value s
  | 0x06 => writeTapEnable p.value s
  | 0x07 => writeActivateHold p.value s
  | 0x08 => writeLateLimit p.value s
  | 0x09 => writeLead p.value s
  | 0x0A => writeSceneProtect p.value s
  | 0x0B => writePanelProtect p.value s
  | 0x0C => writeInternalWidth p.value s
  | 0x0D => writeInternalHeight p.value s
  | 0x0E => writeInternalRate p.value s
  | 0x0F => writeSceneOriginX p.value s
  | 0x10 => writeSceneOriginY p.value s
  | 0x11 => writeBorderColour p.value s
  | _ => if isPanelColour p.id then writePanelColour p.id p.value s else s

/-! ## A SET under way -/

/-- A SET's Count is refused (R176). -/
def setCountBad (g : Segment) : Bool := decide (u8 g.payload 0 = 0) || decide (64 < u8 g.payload 0)

/-- The pairs of a SET (12.3). -/
def pairsOf (g : Segment) : List SetPair := setPairs (u8 g.payload 0) (g.payload.drop 1)

/-- The end of a SET: SEG_BAD once if a pair was skipped (R176). -/
def endSet (skipped : Bool) (s : State) : State :=
  let s1 := s.setUnderway .nothing
  if skipped then raise .segBad s1 else s1

/-- The pairs still to apply are applied in order, and the SET ends (R176). -/
def finishSet : List SetPair → Bool → State → State
  | [], skipped, s => endSet skipped s
  | p :: ps, skipped, s => finishSet ps (skipped || isUnknown p.id) (applySetting p s)

/-- The next pair is applied by `f`; the last pair ends the SET. -/
def applyNextPair (p : SetPair) (rest : List SetPair) (skipped : Bool) (f : SetPair → State → State) (s : State) :
    State :=
  let skipped := skipped || isUnknown p.id
  let s1 := f p s
  match rest with
  | [] => endSet skipped s1
  | _ :: _ => s1.setUnderway (.set rest skipped)

/-- The first pair of the SET at the Management Queue's head: the SET is taken (R10) when its Count is good and its first
pair's id is one of `m`, and the pair is applied. -/
def firstPair (m : Byte → Bool) (f : SetPair → State → State) (s : State) : State :=
  match takeable .management .set s with
  | some g =>
    if setCountBad g then s
    else
      match pairsOf g with
      | p :: rest => if m p.id then applyNextPair p rest false f (dropHead .management s) else s
      | [] => s
  | none => s

end Sys2Proof.Machine
end

