-- ==== Sys2Proof/Machine/Frames.lean ====
section
/-!
DEFINITION. Frame starts (R137 to R145, R153, R154): Raster Timing, the Frame Divider's step and ticks, the changes a
frame start makes, the frame latch, the drain and STANDBY (R161 to R165); and the frame of every command: what is settled
before it and what follows it (log 3, log 4).
-/

namespace Sys2Proof.Machine

/-! ## Draining and STANDBY -/

/-- The drain condition (R162). -/
def drainDone (s : State) : Bool := s.draw.isIdle && !s.still.captureInFlight && s.objects.decoder.isNone

/-- Stops or starts both parsers; their hold reasons are kept (R9). -/
def setStopped (b : Bool) (s : State) : State :=
  s.setLink { s.link with
    graphics := { s.link.graphics with parser := { s.link.graphics.parser with stopped := b } }
    management := { s.link.management with parser := { s.link.management.parser with stopped := b } } }

/-- The entry into STANDBY (R164), and into WAKING in the same event when a segment is stored; the return count is set to 0
(R144), and the candidate size cleared with it (log 19). -/
def enterStandby (s : State) : State :=
  let s1 := setStopped true s
  let s2 := s1.setRaster { s1.raster with lossTimer := none, returnCount := 0, candidate := none }
  let s3 := setOutputState .standby s2
  if s3.link.graphics.queue.isEmpty && s3.link.management.queue.isEmpty then s3 else setOutputState .waking s3

/-- The test of the drain condition: when it holds in DRAINING, the drain ends in STANDBY (R162, R164). It follows every
command, so it is made at every change of the engine, at the completion or abandonment of a decode, and at the completion
or loss of a capture (log 23). -/
def endDrain (s : State) : State := if s.output.state = .draining ∧ drainDone s then enterStandby s else s

/-- The pending target is entered at a frame start (R161). -/
def enterTarget (s : State) : State :=
  let s1 := s.setOutput { s.output with target := none }
  match s.output.state, s.output.target with
  | .live, some t | .frozen, some t | .off, some t =>
    match t with
    | .live => setOutputState .live s1
    | .frozen => setOutputState .frozen s1
    | .off => setOutputState .off s1
    | .standby => drainStills (setOutputState .draining s1)
  | _, _ => s

/-! ## Ticks (R153, R154) -/

/-- The Frame Divider's step at a frame start. -/
def Divider.step (d : Divider) : Divider := if d.running then { d with count := d.count + 1 } else d

/-- The tap ticks at the count as it stands after the step (R154). -/
def Divider.ticks (d : Divider) (t : Tap) : Bool :=
  d.running && t.enabled && decide (d.count.toNat % 2 ^ t.code.toNat = 0)

/-- A tick makes a buffered code active (R155). -/
def Tap.tick (t : Tap) : Tap :=
  match t.buffered with
  | some c => { t with code := c, buffered := none }
  | none => t

/-- TAP_A_TICK (R119). -/
def tickA (s : State) : State :=
  let s1 := s.setDivider { s.divider with tapA := s.divider.tapA.tick }
  if frozenFrame s then s1 else animate s1

/-- TAP_B_TICK (R72, R134). -/
def tickB (s : State) : State :=
  let s1 := s.setDivider { s.divider with tapB := s.divider.tapB.tick }
  if frozenFrame s then s1 else stepPan (stepFade s1)

/-- A hold's countdown (R115). -/
def countHold (s : State) : State :=
  match s.nav.hold with
  | some h => if frozenFrame s then s else s.setNav { s.nav with hold := some { h with counter := h.counter - 1 } }
  | none => s

/-- HOLD_END at a frame start (R108, R115). -/
def endDueHold (s : State) : State :=
  match s.nav.hold with
  | some h => if h.counter = 0 ∧ ¬ frozenFrame s then requestLook h.button (endHold h s) else s
  | none => s

/-! ## Loss and return -/

/-- A loss of video (R142), up to its frame start. -/
def loseVideo (s : State) : State :=
  let s1 := s.setRaster { s.raster with
    mode := .internal, width := s.settings.internalWidth, height := s.settings.internalHeight
    rate := s.settings.internalRate, returnCount := 0, candidate := none }
  raise .videoLoss (loseCapture s1)

/-- The return to LOCKED (R143), up to its frame start. The frame that begins counts as incomplete (R140, log 13). R143 sets
the return count to 0; that the candidate size is cleared with it is the model's choice (log 19). -/
def returnLocked (s : State) : State :=
  match s.raster.candidate with
  | some (w, h) =>
    raise .videoBack (s.setRaster { s.raster with
      mode := .locked, width := w, height := h, returnCount := 0, candidate := none, whole := false })
  | none => s

/-! ## The changes of a frame start (R145) -/

/-- The palettes with a staged copy. -/
def stagedPalettes (s : State) : List (Fin 8) :=
  (List.finRange 8).filter fun p => (s.palettes.get p).staged.isSome

/-- The changes a frame start owes, in the order in which they are made unless a command's `held` says otherwise. The end of
a fade is owed here only while Tap B is disabled, and a tick of Tap B owes the end of a fade or pan that it may bring about
(R72, R134). -/
def owedChanges (s : State) : List FrameChange :=
  (if s.output.target.isSome then [FrameChange.pendingTarget] else []) ++
  (if s.still.anyCopying then [.captureCompletion] else []) ++
  (if s.still.anyWaiting then [.copyingPhase] else []) ++
  [.flip, .patchFlip, .update] ++
  (stagedPalettes s).map .palette ++
  [.panelColours] ++
  (if s.nav.hold.isSome then [.holdCountdown] else []) ++
  (if s.divider.ticks s.divider.tapA then [.tapA] else []) ++
  (if s.divider.ticks s.divider.tapB then [.tapB] else []) ++
  (if s.divider.tapB.enabled then [] else [.fadeEnd]) ++
  [.panJump] ++
  (if s.still.transition.isSome then [.transitionStep] else [])

/-- The changes owed. -/
def owed (s : State) : List FrameChange :=
  match s.underway with
  | .frame cs => cs
  | .nothing | .set .. | .drained => []

/-- Changes that become owed, if they are not. -/
def owe (cs : List FrameChange) (s : State) : State :=
  s.setUnderway (.frame (owed s ++ cs.filter fun c => !(owed s).contains c))

/-- Changes that are owed no longer. -/
def disown (c : FrameChange) (s : State) : State := s.setUnderway (.frame ((owed s).erase c))

/-- A frame start begins: FC and the frame count step (R137, R153). -/
def beginFrame (s : State) : State :=
  let s1 := (s.setRaster { s.raster with fc := s.raster.fc + 1 }).setDivider s.divider.step
  s1.setUnderway (.frame (owedChanges s1))

/-- A REBUILD's flip at a frame start (R63, R64); no UPDATE is applied at this frame start then (R66), and the fade that a
tick may have brought to its end gives way to the layout's own (R71). -/
def flipDue (s : State) : State :=
  match s.sched.back with
  | some r => if flips s r then disown .fadeEnd (disown .update (flipLayout r s)) else s
  | none => s

/-- A PATCH's flip at a frame start (R94). -/
def flipPatch (s : State) : State :=
  if s.draw.holdsPatch then
    match s.output.state with
    | .live | .off | .draining => flipBuffers s
    | .frozen | .standby | .waking | .fault => s
  else s

/-- The application of the head UPDATE at a frame start (R66); as at a flip, its fade takes the place of one that has ended. -/
def updateDue (s : State) : State :=
  match s.sched.queue with
  | r :: rest => if applies s r then disown .fadeEnd (applyUpdate r rest s) else s
  | [] => s

/-- One change of a frame start, made where its rule's conditions hold. -/
def makeChange (c : FrameChange) (s0 : State) : State :=
  let s := disown c s0
  match c with
  | .pendingTarget => enterTarget s
  | .returnToLocked => beginFrame (returnLocked s)
  | .captureCompletion => if s.raster.mode = .locked then completeCapture s else s
  | .copyingPhase => beginCopying s
  | .flip => flipDue s
  | .patchFlip => flipPatch s
  | .update => updateDue s
  | .palette p => paletteGoesLive p s
  | .panelColours => showPanelColours s
  | .holdCountdown => owe [.holdEnd] (countHold s)
  | .holdEnd => endDueHold s
  | .tapA => tickA s
  | .tapB => owe [.fadeEnd, .panEnd] (tickB s)
  | .fadeEnd => endFade s
  | .panEnd => endPan s
  | .panJump => jumpWaitingPan s
  | .transitionStep => owe [.transitionCompletion] (stepTransition s)
  | .transitionCompletion => endTransition s
  | .standbyEntry => endDrain s

/-- The frame latch (R145). -/
def latchOf (s : State) : Latch :=
  { mode := s.raster.mode, width := s.raster.width, height := s.raster.height, output := s.output.state
    border := s.settings.border, pageMap := s.nav.pageMap, front := s.draw.front, palette := s.sched.front.palette
    fade := s.sched.fade, scene := s.sched.scene, panel := s.panel.shown, shown := s.still.shown, view := s.still.view
    transition := s.still.transition, buffers := s.still.buffers }

/-- The end of a frame start's event: the latch, and STANDBY when the drain condition holds (R145, R162, log 18), unless that
entry is held for STANDBY_ENTRY (log 23). -/
def closeFrame (held : List FrameChange) (s : State) : State :=
  let s1 := s.setMixer { frame := some (latchOf s) }
  if held.contains .standbyEntry && decide (s.output.state = .draining) && drainDone s then s1.setUnderway .drained
  else endDrain (s1.setUnderway .nothing)

/-- The next change to make: the pending target and the return before all others, since the others read them (R161); none
while that one is held, or when only held changes are left. -/
def nextChange (held cs : List FrameChange) : Option FrameChange :=
  if cs.contains .returnToLocked then (if held.contains .returnToLocked then none else some .returnToLocked)
  else if cs.contains .pendingTarget then (if held.contains .pendingTarget then none else some .pendingTarget)
  else cs.find? fun c => !held.contains c

/-- Makes the owed changes that are not held, and closes the frame start when none is owed. `fuel` exceeds the number of
changes a frame start can owe. -/
def runFrame (held : List FrameChange) : Nat → State → State
  | 0, s => closeFrame held s
  | n + 1, s =>
    match nextChange held (owed s) with
    | some c => runFrame held n (makeChange c s)
    | none => if (owed s).isEmpty then closeFrame held s else s

/-- More changes than a frame start can owe. -/
def frameFuel : Nat := 64

/-- A frame start, but for the changes that are held. -/
def startFrame (held : List FrameChange) (s : State) : State := runFrame held frameFuel (beginFrame s)

/-- A change of the frame start under way that has been held, made by its own command; the pending target comes first
(R161). -/
def ownChange (c : FrameChange) (s : State) : State :=
  if (owed s).contains c then
    let s1 := if decide (c ≠ .pendingTarget) && (owed s).contains .pendingTarget then makeChange .pendingTarget s else s
    let s2 := makeChange c s1
    if (owed s2).isEmpty then closeFrame [] s2 else s2
  else s

/-! ## The frame of every command -/

/-- An indivisible event under way is brought to its end (log 4, log 5), and the parsers then go on. -/
def finishUnderway (s : State) : State :=
  match s.underway with
  | .nothing => s
  | .frame _ => parsersGoOn (runFrame [] frameFuel s)
  | .set pairs skipped => parsersGoOn (finishSet pairs skipped s)
  | .drained => parsersGoOn (endDrain (s.setUnderway .nothing))

/-- What precedes a command: the event under way ends, and the places free in the Draw Queue have been offered to the
Update Backlog (R67), so that every source that adds a job finds the room that remains (R82, log 14). -/
def settle (s : State) : State :=
  let s1 := finishUnderway s
  drainBacklog s1.sched.backlog.length s1

/-- What follows a command: unless an event is still under way, the drain condition is tested (R162) and the parsers go on.
The command has raised its events by then: where one event both fulfils the drain condition and raises a FATAL event, as a
first fragment can (R36), FAULT is entered and STANDBY is not, which is the model's choice (log 25). Where the command has
freed a place in the Draw Queue, the parsers' re-test leaves it to the Update Backlog first (R82, `roomRemains`). -/
def rest (s : State) : State :=
  match s.underway with
  | .nothing => parsersGoOn (endDrain s)
  | .frame _ | .set .. | .drained => s

/-- Time passes with no command (log 1, log 9): where no frame starts occur, in STANDBY, in WAKING and in a reset, the frame
in progress has been completed and Video Out carries none (R152, R164, R169). -/
def timePasses (s : State) : State := if framesRun s then s else s.setMixer { frame := none }

/-- The outcome of a command whose effect is `f`. -/
def act (f : State → State) (s : State) : Host.Outcome State Fault Refusal := .next (rest (f (settle s)))

/-! ## Frame starts from outside -/

/-- An internal frame start (R141). -/
def internalStart (held : List FrameChange) (s : State) : State :=
  if framesRun s && decide (s.raster.mode = .internal) then startFrame held s else s

/-- The lines of a Video In frame that carry an active pixel (R138). -/
def activeLines (f : VideoFrame) : VideoFrame := f.filter fun l => !l.isEmpty

/-- The measured size of a Video In frame that was received whole; none when it is unsupported (R138). -/
def measuredSize (f : VideoFrame) : Option (Nat × Nat) :=
  match activeLines f with
  | [] => none
  | l :: ls =>
    if ls.all (fun m => m.length == l.length) && decide (16 ≤ l.length) && decide (l.length ≤ Config.planeWidth)
        && decide (16 ≤ ls.length + 1) && decide (ls.length + 1 ≤ Config.planeHeight) then
      some (l.length, ls.length + 1)
    else none

/-- The loss timer is restarted, and the Video In frame that begins is received whole (R138, R139). -/
def restartTimer (s : State) : State :=
  s.setRaster { s.raster with lossTimer := some s.settings.internalRate, whole := true }

/-- The pixels of the Video In frame that ends, as a copying capture has received them (R127, log 20). -/
def receivePixels (ended : VideoFrame) (s : State) : State :=
  s.setStill (s.still.mapBuffers (StillBuffer.receive
    (((activeLines ended).take s.raster.height).map fun l => l.take s.raster.width)))

/-- The return count and candidate after a whole Video In frame of this size in INTERNAL mode (R143). -/
def Raster.judge (r : Raster) (size : Option (Nat × Nat)) : Raster :=
  match size with
  | none => { r with returnCount := 0, candidate := none }
  | some z =>
    if r.candidate = some z ∧ 0 < r.returnCount then { r with returnCount := r.returnCount + 1 }
    else { r with candidate := some z, returnCount := 1 }

/-- A Video In frame start (R140, R142, R143). -/
def videoInStart (ended : VideoFrame) (held : List FrameChange) (s : State) : State :=
  if framesRun s then
    match s.raster.mode with
    | .locked =>
      if !s.raster.whole || decide (measuredSize ended = some (s.raster.width, s.raster.height)) then
        startFrame held (restartTimer (receivePixels ended s))
      else startFrame held (restartTimer (loseVideo s))
    | .internal =>
      let s1 := if s.raster.whole then s.setRaster (s.raster.judge (measuredSize ended)) else s
      let s2 := restartTimer s1
      if 4 ≤ s2.raster.returnCount then runFrame held frameFuel (s2.setUnderway (.frame [.returnToLocked])) else s2
  else s

/-- The expiry of the loss timer (R139, R142). -/
def expire (held : List FrameChange) (s : State) : State :=
  if framesRun s && s.raster.lossTimer.isSome then
    let s1 := s.setRaster { s.raster with lossTimer := none, whole := false }
    match s.raster.mode with
    | .locked => startFrame held (loseVideo s1)
    | .internal => s1.setRaster { s1.raster with returnCount := 0, candidate := none }
  else s

/-! ## Wake and resets -/

/-- The wake completion (R144, R165): the parsers take up their heads before Raster Timing resumes, so that a FATAL discard
enters FAULT before the frame start; a head that can be taken is taken by its own command, after the wake (log 22). -/
def wake (held : List FrameChange) (s : State) : State :=
  if s.output.state = .waking then
    let s1 := parsersGoOn (setStopped false (raise .wake (setOutputState .off s)))
    let s2 := s1.setRaster { s1.raster with whole := false }
    match s2.raster.mode with
    | .internal => startFrame held s2
    | .locked => s2.setRaster { s2.raster with lossTimer := some s2.settings.internalRate }
  else s

/-- Every block at its power-on values (R168, R169); the framing of the link goes on (R17). -/
def powerOnValues (cause : ResetCause) (phase : ResetPhase) (s : State) : State :=
  { State.reset with
    pending := s.pending
    link := { resetLink with rx := s.link.rx.afterReset }
    resetCtl := { cause, phase } }

/-- The assertion of RESET_N (R168). -/
def assertReset (s : State) : State := powerOnValues .powerOn .asserted s

/-- The taking of a RESET (R169): the report in transmission is completed, and so is the frame in progress. -/
def takeReset (s : State) : State :=
  ((powerOnValues .linkReset .inProgress s).setSender { resetSender with transmitting := s.sender.transmitting }).setMixer
    s.mixer

/-- RESET_N is released (R168). -/
def releaseReset (s : State) : State :=
  if s.resetCtl.phase = .asserted then s.setResetCtl { s.resetCtl with phase := .inProgress } else s

/-- The reset completion (R170): the plane buffers are cleared and the Still Unit is at its power-on values, READY becomes
pending, and the first internal frame start is issued. -/
def completeReset (held : List FrameChange) (s : State) : State :=
  if s.resetCtl.phase = .inProgress then
    let s1 := s.setResetCtl { s.resetCtl with phase := .complete }
    let s2 := s1.setDraw { s1.draw with planeX := [], planeY := [], frontIsX := true }
    let s3 := (s2.setStill resetStill).setSender { s2.sender with ready := true }
    startFrame held (s3.setRaster { s3.raster with whole := false })
  else s

end Sys2Proof.Machine
end

