-- ==== Sys2Proof/Machine/DrawCommands.lean ====
section
/-!
DEFINITION. Layout submission, the Update Backlog, draw jobs and decodes (R34, R35, R61, R67, R84, R85, R96).
-/

namespace Sys2Proof.Machine

/-- The start of a decode where the output state lets it (R34). -/
def startDecode (s : State) : State := if s.output.state.working then s.setObjects s.objects.startDecode else s

/-- The completion of the decode in flight (R35). -/
def completeDecode (s : State) : State :=
  raiseAll s.objects.completeDecode.2 (s.setObjects s.objects.completeDecode.1)

/-- LAYOUT_SUBMISSION (R59 to R61). -/
def execLayoutSubmission (s : State) : Host.Outcome State Fault Refusal := act submitLayout s

/-- BACKLOG_MOVE (R67). -/
def execBacklogMove (s : State) : Host.Outcome State Fault Refusal := .next (rest (moveBacklog (finishUnderway s)))

/-- JOB_START (R84). -/
def execJobStart (s : State) : Host.Outcome State Fault Refusal := act startJob s

/-- JOB_COMPLETION (R85). -/
def execJobCompletion (s : State) : Host.Outcome State Fault Refusal := act completeJob s

/-- RESYNC_COMPLETION (R96). -/
def execResyncCompletion (s : State) : Host.Outcome State Fault Refusal := act completeResync s

/-- DECODE_START (R34). -/
def execDecodeStart (s : State) : Host.Outcome State Fault Refusal := act startDecode s

/-- DECODE_COMPLETION (R35). -/
def execDecodeCompletion (s : State) : Host.Outcome State Fault Refusal := act completeDecode s

end Sys2Proof.Machine
end

