-- ==== Sys2Proof/Machine/FrameCommands.lean ====
section
/-!
DEFINITION. Frame starts (R139 to R143) and the changes of a frame start as commands of their own (R145, log 4).
-/

namespace Sys2Proof.Machine

/-- The outcome of a change of the frame start under way. -/
def frameCommand (c : FrameChange) (s : State) : Host.Outcome State Fault Refusal := .next (rest (ownChange c s))

/-- VIDEO_IN_FRAME_START (R140, R142, R143): `ended` is the Video In frame it ends. -/
def execVideoInFrameStart (ended : VideoFrame) (held : List FrameChange) (s : State) :
    Host.Outcome State Fault Refusal := act (videoInStart ended held) s

/-- INTERNAL_FRAME_START (R141). -/
def execInternalFrameStart (held : List FrameChange) (s : State) : Host.Outcome State Fault Refusal :=
  act (internalStart held) s

/-- LOSS_TIMER_EXPIRY (R139, R142). -/
def execLossTimerExpiry (held : List FrameChange) (s : State) : Host.Outcome State Fault Refusal := act (expire held) s

/-- RETURN_TO_LOCKED (R143), when a Video In frame start has brought the return count to 4 and has held the return. -/
def execReturnToLocked (s : State) : Host.Outcome State Fault Refusal :=
  .next (rest (if (owed s).contains .returnToLocked then runFrame [] frameFuel s else s))

/-- TAP_A_TICK (R119, R154). -/
def execTapATick (s : State) : Host.Outcome State Fault Refusal := frameCommand .tapA s

/-- TAP_B_TICK (R72, R134, R154). -/
def execTapBTick (s : State) : Host.Outcome State Fault Refusal := frameCommand .tapB s

/-- FADE_END (R72). -/
def execFadeEnd (s : State) : Host.Outcome State Fault Refusal := frameCommand .fadeEnd s

/-- PAN_END (R134). -/
def execPanEnd (s : State) : Host.Outcome State Fault Refusal := frameCommand .panEnd s

/-- PAN_JUMP_TO_END (R134). -/
def execPanJumpToEnd (s : State) : Host.Outcome State Fault Refusal := frameCommand .panJump s

/-- PALETTE_GOES_LIVE (R48). -/
def execPaletteGoesLive (p : Fin 8) (s : State) : Host.Outcome State Fault Refusal := frameCommand (.palette p) s

/-- PENDING_TARGET_ENTRY (R161). -/
def execPendingTargetEntry (s : State) : Host.Outcome State Fault Refusal := frameCommand .pendingTarget s

/-- FLIP (R64). -/
def execFlip (s : State) : Host.Outcome State Fault Refusal := frameCommand .flip s

/-- UPDATE_APPLICATION (R66). -/
def execUpdateApplication (s : State) : Host.Outcome State Fault Refusal := frameCommand .update s

/-- PATCH_FLIP (R94). -/
def execPatchFlip (s : State) : Host.Outcome State Fault Refusal := frameCommand .patchFlip s

/-- HOLD_END (R108, R115). -/
def execHoldEnd (s : State) : Host.Outcome State Fault Refusal := frameCommand .holdEnd s

/-- COPYING_PHASE_START (R127). -/
def execCopyingPhaseStart (s : State) : Host.Outcome State Fault Refusal := frameCommand .copyingPhase s

/-- CAPTURE_COMPLETION (R127). -/
def execCaptureCompletion (s : State) : Host.Outcome State Fault Refusal := frameCommand .captureCompletion s

/-- TRANSITION_COMPLETION (R131). -/
def execTransitionCompletion (s : State) : Host.Outcome State Fault Refusal := frameCommand .transitionCompletion s

end Sys2Proof.Machine
end

