-- ==== Sys2Proof/Machine/GraphicsCommands.lean ====
section
/-!
DEFINITION. The segments the Graphics Parser takes (R12): SCENE_OPEN, PALETTE, OBJECT, BUTTONS, LAYOUT, CANCEL. Each
takes the segment at the Graphics Queue's head when it is of its kind and may be taken.
-/

namespace Sys2Proof.Machine

/-- The owner's part of an OBJECT fragment (R24 to R30). -/
def objectFragment (g : Segment) (s : State) : State :=
  match idOf 64 g.header.tag.toNat with
  | some k =>
    let r := s.objects.takeFragment k g
    raiseAll r.2 (s.setObjects r.1)
  | none => s

/-- The owner's part of a BUTTONS (R101, R102). -/
def takeButtons (g : Segment) (s : State) : State :=
  match idOf 4 g.header.tag.toNat, rawButtons (u8 g.payload 2) (g.payload.drop 4) with
  | some t, some raws =>
    match makeTable s.sched.scene.w s.sched.scene.h (u8 g.payload 1) (u8 g.payload 2) raws with
    | some tbl => s.setNav (s.nav.placeTable t tbl)
    | none => raise .segBad s
  | _, _ => s

/-- The owner's part of a LAYOUT (R56, R57). -/
def takeLayout (g : Segment) (s : State) : State :=
  match layoutRecord s.raster.fc g with
  | some (r, whole) =>
    let s1 := s.setSched { s.sched with queue := s.sched.queue ++ [r] }
    if whole then s1 else raise .segBad s1
  | none => raise .segBad s

/-- The owner's part of a PALETTE (R46, R47). -/
def takePalette (g : Segment) (s : State) : State :=
  match idOf 8 g.header.tag.toNat with
  | some p => mergePalette p g s
  | none => s

/-- The owner's part of a CANCEL (R31). -/
def cancelObject (s : State) : State := s.setObjects (s.objects.mapSlots Slot.afterCancel)

/-- SCENE_OPEN (R75). -/
def execSceneOpen (s : State) : Host.Outcome State Fault Refusal :=
  act (takeSegment .graphics .sceneOpen (fun _ => true) openScene) s

/-- PALETTE (R46). -/
def execPalette (s : State) : Host.Outcome State Fault Refusal :=
  act (takeSegment .graphics .palette (fun _ => true) takePalette) s

/-- OBJECT_FIRST_FRAGMENT (R24 to R27, R30). -/
def execObjectFirstFragment (s : State) : Host.Outcome State Fault Refusal :=
  act (takeSegment .graphics .object (fun g => hasFirst g.header) objectFragment) s

/-- OBJECT_LATER_FRAGMENT (R28 to R30). -/
def execObjectLaterFragment (s : State) : Host.Outcome State Fault Refusal :=
  act (takeSegment .graphics .object (fun g => !hasFirst g.header) objectFragment) s

/-- BUTTONS (R101). -/
def execButtons (s : State) : Host.Outcome State Fault Refusal :=
  act (takeSegment .graphics .buttons (fun _ => true) takeButtons) s

/-- LAYOUT (R56). -/
def execLayout (s : State) : Host.Outcome State Fault Refusal :=
  act (takeSegment .graphics .layout (fun _ => true) takeLayout) s

/-- CANCEL (R31). -/
def execCancel (s : State) : Host.Outcome State Fault Refusal :=
  act (takeSegment .graphics .cancel (fun _ => true) fun _ => cancelObject) s

end Sys2Proof.Machine
end

