-- ==== Sys2Proof/Machine/KeyCommands.lean ====
section
/-!
DEFINITION. The serving of the head key (R109 to R114).
-/

namespace Sys2Proof.Machine

/-- A directional key code. -/
def KeyCode.directional : KeyCode → Bool
  | .up | .down | .left | .right => true
  | .ok | .number => false

/-- The head key, unmarked and of a code in `p`, is served by its code where R109 lets it be. -/
def serveByCode (p : KeyCode → Bool) (f : Key → State → State) (s : State) : State :=
  if servesKeys s then
    serveHead (fun k => !k.marked && p k.code) (fun k => withTable k.code (f k)) s
  else s

/-- SERVE_DIRECTIONAL_KEY (R110, R111). -/
def execServeDirectionalKey (s : State) : Host.Outcome State Fault Refusal :=
  act (serveByCode KeyCode.directional fun k => serveDirectional k.code) s

/-- SERVE_OK_KEY (R112). -/
def execServeOkKey (s : State) : Host.Outcome State Fault Refusal :=
  act (serveByCode (fun c => c == .ok) fun _ => serveOk) s

/-- SERVE_NUMBER_KEY (R112). -/
def execServeNumberKey (s : State) : Host.Outcome State Fault Refusal :=
  act (serveByCode (fun c => c == .number) fun k => serveNumber k.n) s

/-- SERVE_UNUSED_KEY (R109): a marked key, or a key served in FAULT. -/
def execServeUnusedKey (s : State) : Host.Outcome State Fault Refusal :=
  act (fun s => serveHead (fun k => servesUnused k s) (fun k => answerUnused k.code) s) s

end Sys2Proof.Machine
end

