-- ==== Sys2Proof/Machine/LinkCommands.lean ====
section
/-!
DEFINITION. The commands of the Segment Link (R1, R5, R6).
-/

namespace Sys2Proof.Machine

/-- SEGMENT_HEADER (R5, R6, R17, R165): the eighth header byte is received. -/
def execSegmentHeader (h : Header) (s : State) : Host.Outcome State Fault Refusal := act (receiveHeader h) s

/-- SEGMENT_ARRIVAL_COMPLETE (R6). -/
def execSegmentArrivalComplete (payload : List Byte) (crc : Word16) (s : State) : Host.Outcome State Fault Refusal :=
  act (completeArrival payload crc) s

/-- HEADER_CUT_SHORT (R1), after `received` header bytes. -/
def execHeaderCutShort (received : Nat) (s : State) : Host.Outcome State Fault Refusal := act (cutHeader received) s

/-- ARRIVAL_CUT_SHORT (R6). -/
def execArrivalCutShort (s : State) : Host.Outcome State Fault Refusal := act cutShort s

/-- STRAY_BYTES (R1). -/
def execStrayBytes (count : Nat) (s : State) : Host.Outcome State Fault Refusal := act (receiveStray count) s

/-- DROPPED_SEGMENT_END (R5). -/
def execDroppedSegmentEnd (s : State) : Host.Outcome State Fault Refusal := act endDropped s

end Sys2Proof.Machine
end

