-- ==== Sys2Proof/Machine/Reports.lean ====
section
/-!
DEFINITION. The Report Sender (R18 to R20, R178, R179): the Status record, the pick and the end of a transmission.
-/

namespace Sys2Proof.Machine

/-- The Status record as the blocks stand (R179). -/
def statusRecord (s : State) : StatusRecord :=
  { state := s.output.state, resetCause := s.resetCtl.cause, frameCounter := s.raster.fc, timingMode := s.raster.mode
    rasterWidth := s.raster.width, rasterHeight := s.raster.height, scene := s.sched.scene
    frontLayout := s.sched.front.number, layoutQueueDepth := s.sched.queue.length, fadeLevel := s.sched.fade
    pixelBudgetUsed := s.objects.budgetUsed, codedAreaUsed := s.objects.codedUsed, liveTable := s.nav.liveTable
    selection := s.nav.selection, still0 := s.still.buffers.get 0, still1 := s.still.buffers.get 1
    shownSource := s.still.shown, lastStillResult := s.still.last, lastRequestResult := s.output.lastRequest
    globalEnable := s.events.globalEnable, flags := s.events.flags, enables := s.events.enables
    severity := s.events.fatal, tapACode := s.divider.tapA.code, tapBCode := s.divider.tapB.code
    tapAEnabled := s.divider.tapA.enabled, tapBEnabled := s.divider.tapB.enabled }

/-- The picked report goes into transmission, with the Frame Counter in Target and the next Seq (R18). -/
def transmit (kind : ReportKind) (tag : Byte) (payload : List Byte) (s : State) : State :=
  s.setSender { s.sender with
    transmitting := some { kind, tag, target := s.raster.fc, seq := s.sender.nextSeq, payload }
    nextSeq := s.sender.nextSeq + 1 }

/-- The pick of a READY. -/
def pickReady (s : State) : State :=
  transmit .ready 0 [s.resetCtl.cause.code] (s.setSender { s.sender with ready := false })

/-- The pick of a STATUS. -/
def pickStatus (r : StatusRecord) (s : State) : State :=
  transmit .status 0 r.bytes (s.setSender { s.sender with status := none })

/-- The Tag of a CREDIT report (R181). -/
def Channel.tag : Channel → Byte
  | .graphics => 0
  | .management => 1

/-- The pick of a CREDIT: it takes the whole pending count (R8). -/
def pickCredit (ch : Channel) (s : State) : State :=
  let c := s.link.channel ch
  transmit .credit ch.tag [byteOf c.credits] (setChannel ch { c with credits := 0 } s)

/-- The pick of a KEY_RESULT: the result leaves the result slot (R108). -/
def pickKeyResult (r : KeyResult) (s : State) : State :=
  transmit .keyResult 0 r.bytes (s.setNav { s.nav with result := none })

/-- The pick of a NOTICE: it takes the whole pending notice set (R175). -/
def pickNotice (s : State) : State :=
  transmit .notice 0 (bytes16 s.events.notices.toNat) (s.setEvents { s.events with notices := 0 })

/-- REPORT_PICK: the first pending kind in the order of R20, when no report is in transmission. -/
def pickReport (s : State) : State :=
  if s.sender.transmitting.isSome then s
  else if s.sender.ready then pickReady s
  else
    match s.sender.status with
    | some r => pickStatus r s
    | none =>
      if s.link.graphics.credits ≠ 0 then pickCredit .graphics s
      else if s.link.management.credits ≠ 0 then pickCredit .management s
      else
        match s.nav.result with
        | some r => pickKeyResult r s
        | none => if s.events.notices ≠ 0 then pickNotice s else s

/-- What the Link Receiver is framing when the discard window ends (R17). `headerBegun` says that a segment has begun whose
header is not complete: it began in the window, be it after a segment or in place of one that was being dropped, and is
dropped in its turn (log 17). -/
def Rx.afterWindow (headerBegun : Bool) : Rx → Rx
  | .waiting b => if headerBegun then .header true else .waiting b
  | .dropping => if headerBegun then .header true else .dropping
  | .header b => .header b
  | .arriving h => .arriving h

/-- REPORT_TRANSMITTED (R20). With the READY the discard window ends (R17). -/
def endTransmission (headerBegun : Bool) (s : State) : State :=
  match s.sender.transmitting with
  | none => s
  | some r =>
    let s1 := s.setSender { s.sender with transmitting := none }
    if r.kind = .ready then s1.setLink { s1.link with window := false, rx := s1.link.rx.afterWindow headerBegun } else s1

end Sys2Proof.Machine
end

