-- ==== Sys2Proof/Machine/ManagementCommands.lean ====
section
/-!
DEFINITION. The segments the Management Parser takes (R14), but for a SET that is applied: KEY, PLANE_REQ, QUERY,
CLEAR_EVENTS, CAPTURE, SHOW, PAN, PANEL_FILL, PANEL_BITMAP, RESET and the refused SET.
-/

namespace Sys2Proof.Machine

/-! ## Keys and plane requests -/

/-- A KEY's Tag (12.3). -/
def keyCodeOf (tag : Byte) : KeyCode :=
  match tag.toNat with
  | 0 => .up | 1 => .down | 2 => .left | 3 => .right | 4 => .ok | _ => .number

/-- The owner's part of a KEY (R107): only a NUMBER carries n. -/
def takeKey (g : Segment) (s : State) : State :=
  let code := keyCodeOf g.header.tag
  let k : Key := { code, n := if code = .number then g.payload.getD 0 0 else 0, marked := false }
  if s.nav.keys.length < Config.keyQueueMax then s.setNav { s.nav with keys := s.nav.keys ++ [k] }
  else raise .keyDrop s

/-- The output state a target names. -/
def Target.state : Target → OutputState
  | .live => .live | .frozen => .frozen | .off => .off | .standby => .standby

/-- The state the part is headed for (R160). -/
def Output.headedFor (o : Output) : OutputState :=
  match o.target with
  | some t => t.state
  | none => o.state

/-- Sets the pending target. -/
def setTarget (t : Option Target) (s : State) : State := s.setOutput { s.output with target := t }

/-- A PLANE_REQ of LIVE, FREEZE, OFF or STANDBY (R160, R163, R167). -/
def requestPlane (want : Target) (s : State) : State :=
  match s.output.state with
  | .live | .frozen | .off =>
    if want.state = s.output.headedFor then setRequestResult .ignored s
    else if want.state = s.output.state then setRequestResult .accepted (setTarget none s)
    else setRequestResult .accepted (setTarget (some want) s)
  | .draining =>
    if want = .standby then setRequestResult .ignored s
    else setRequestResult .accepted (setOutputState want.state s)
  | .fault => setRequestResult .ignored s
  | .standby | .waking => s

/-- A RESTART (R167). -/
def restartPart (s : State) : State :=
  setRequestResult .accepted (setOutputState .off (setTarget none (sceneFlush s)))

/-! ## Events and status -/

/-- The owner's part of a CLEAR_EVENTS (R174). -/
def clearFlags (g : Segment) (s : State) : State :=
  s.setEvents { s.events with flags := s.events.flags &&& ~~~(BitVec.ofNat 16 (u16 g.payload 0)) }

/-- The owner's part of a QUERY (R178). -/
def takeQuery (s : State) : State := s.setSender { s.sender with status := some (statusRecord s) }

/-! ## Still Unit and panel -/

/-- The owner's part of a CAPTURE (R126). -/
def takeCapture (g : Segment) (s : State) : State :=
  match idOf 2 g.header.tag.toNat with
  | some b => startCapture b s
  | none => s

/-- The owner's part of a SHOW (R129). -/
def takeShow (g : Segment) (s : State) : State :=
  showNew (sourceOfTag g.header.tag) (u8 g.payload 0) (u8 g.payload 1) s

/-- The owner's part of a PAN (R132). -/
def takePan (g : Segment) (s : State) : State :=
  startPan (u16 g.payload 0) (u16 g.payload 2) (u16 g.payload 4) (u16 g.payload 6) (u8 g.payload 8) (u16 g.payload 10) s

/-- A panel job joins the Draw Queue, or its segment is refused for its panel index (R91). -/
def queuePanel (g : Segment) (bits : Option (List Byte)) (s : State) : State :=
  if 15 < u8 g.payload 8 then raise .segBad s
  else
    let rect : Rect := { x := u16 g.payload 0, y := u16 g.payload 2, w := u16 g.payload 4, h := u16 g.payload 6 }
    s.setDraw { s.draw with
      queue := s.draw.queue ++ [.panel { rect, index := BitVec.ofNat 4 (u8 g.payload 8), bits, clearFirst := false }] }

/-- The row bytes of a PANEL_BITMAP: H rows of ceil(W / 8) bytes (12.3). -/
def bitmapBytes (g : Segment) : List Byte :=
  (g.payload.drop 9).take (u16 g.payload 6 * ceilDiv (u16 g.payload 4) 8)

/-! ## The commands -/

/-- KEY (R107). -/
def execKey (s : State) : Host.Outcome State Fault Refusal :=
  act (takeSegment .management .key (fun _ => true) takeKey) s

/-- PLANE_REQ_LIVE (R160, R163). -/
def execPlaneReqLive (s : State) : Host.Outcome State Fault Refusal :=
  act (takeSegment .management .planeReq (fun g => g.header.tag == 0) fun _ => requestPlane .live) s

/-- PLANE_REQ_FREEZE (R160, R163). -/
def execPlaneReqFreeze (s : State) : Host.Outcome State Fault Refusal :=
  act (takeSegment .management .planeReq (fun g => g.header.tag == 1) fun _ => requestPlane .frozen) s

/-- PLANE_REQ_OFF (R160, R163). -/
def execPlaneReqOff (s : State) : Host.Outcome State Fault Refusal :=
  act (takeSegment .management .planeReq (fun g => g.header.tag == 2) fun _ => requestPlane .off) s

/-- PLANE_REQ_STANDBY (R160, R163). -/
def execPlaneReqStandby (s : State) : Host.Outcome State Fault Refusal :=
  act (takeSegment .management .planeReq (fun g => g.header.tag == 3) fun _ => requestPlane .standby) s

/-- RESTART (R167). -/
def execRestart (s : State) : Host.Outcome State Fault Refusal :=
  act (takeSegment .management .planeReq (fun g => g.header.tag == 4) fun _ => restartPart) s

/-- QUERY (R178). -/
def execQuery (s : State) : Host.Outcome State Fault Refusal :=
  act (takeSegment .management .query (fun _ => true) fun _ => takeQuery) s

/-- CLEAR_EVENTS (R174). -/
def execClearEvents (s : State) : Host.Outcome State Fault Refusal :=
  act (takeSegment .management .clearEvents (fun _ => true) clearFlags) s

/-- CAPTURE (R126). -/
def execCapture (s : State) : Host.Outcome State Fault Refusal :=
  act (takeSegment .management .capture (fun _ => true) takeCapture) s

/-- SHOW (R129). -/
def execShowSource (s : State) : Host.Outcome State Fault Refusal :=
  act (takeSegment .management .showSource (fun _ => true) takeShow) s

/-- PAN (R132). -/
def execPan (s : State) : Host.Outcome State Fault Refusal :=
  act (takeSegment .management .pan (fun _ => true) takePan) s

/-- PANEL_FILL (R91). -/
def execPanelFill (s : State) : Host.Outcome State Fault Refusal :=
  act (takeSegment .management .panelFill (fun _ => true) fun g => queuePanel g none) s

/-- PANEL_BITMAP (R91). -/
def execPanelBitmap (s : State) : Host.Outcome State Fault Refusal :=
  act (takeSegment .management .panelBitmap (fun _ => true) fun g => queuePanel g (some (bitmapBytes g))) s

/-- RESET (R169). -/
def execReset (s : State) : Host.Outcome State Fault Refusal :=
  act (takeSegment .management .reset (fun _ => true) fun _ => takeReset) s

/-- SET_REFUSED (R176): a SET whose Count is 0 or above 64. -/
def execSetRefused (s : State) : Host.Outcome State Fault Refusal :=
  act (takeSegment .management .set setCountBad fun _ => raise .segBad) s

end Sys2Proof.Machine
end

