-- ==== Sys2Proof/Machine/ReportCommands.lean ====
section
/-!
DEFINITION. The Report Link (R20).
-/

namespace Sys2Proof.Machine

/-- REPORT_PICK (R20). -/
def execReportPick (s : State) : Host.Outcome State Fault Refusal := act pickReport s

/-- REPORT_TRANSMITTED (R20, R17). -/
def execReportTransmitted (headerBegun : Bool) (s : State) : Host.Outcome State Fault Refusal :=
  act (endTransmission headerBegun) s

end Sys2Proof.Machine
end

