-- ==== Sys2Proof/Machine/ResetCommands.lean ====
section
/-!
DEFINITION. Power-on and the reset completion (R168, R170), STANDBY and the wake (R164, R165).
-/

namespace Sys2Proof.Machine

/-- POWER_ON (R168): the assertion of RESET_N, at any moment; an event under way is not finished. -/
def execPowerOn (s : State) : Host.Outcome State Fault Refusal := .next (assertReset s)

/-- RESET_N_RELEASE (R168). -/
def execResetNRelease (s : State) : Host.Outcome State Fault Refusal := act releaseReset s

/-- RESET_COMPLETION (R170), with its first internal frame start (R137). -/
def execResetCompletion (held : List FrameChange) (s : State) : Host.Outcome State Fault Refusal :=
  act (completeReset held) s

/-- STANDBY_ENTRY (R162, R164), when a frame start has held it; otherwise the event that fulfils the drain condition has
made it (log 23). -/
def execStandbyEntry (s : State) : Host.Outcome State Fault Refusal := act endDrain s

/-- WAKE_COMPLETION (R165). -/
def execWakeCompletion (held : List FrameChange) (s : State) : Host.Outcome State Fault Refusal := act (wake held) s

end Sys2Proof.Machine
end

