-- ==== Sys2Proof/Machine/SettingCommands.lean ====
section
/-!
DEFINITION. The pairs of a SET, one command each (R176, R177, log 5). A command applies the next pair of the SET under way,
or takes the SET at the Management Queue's head and applies its first pair, when that pair's id is its own.
-/

namespace Sys2Proof.Machine

/-- The effect of a pair command whose ids are `m` and whose write is `f`. -/
def pairEffect (m : Byte → Bool) (f : SetPair → State → State) (s : State) : State :=
  match s.underway with
  | .set (p :: rest) skipped => if m p.id then applyNextPair p rest skipped f s else firstPair m f (settle s)
  | .set [] _ | .nothing | .frame _ | .drained => firstPair m f (settle s)

/-- The outcome of a pair command. -/
def pairCommand (m : Byte → Bool) (f : SetPair → State → State) (s : State) : Host.Outcome State Fault Refusal :=
  .next (rest (pairEffect m f s))

/-- EVENT_ENABLE (R173, R177). -/
def execEventEnable (s : State) : Host.Outcome State Fault Refusal :=
  pairCommand (fun id => id == 0x01) (fun p => writeEventEnable p.value) s

/-- GLOBAL_ENABLE (R173, R177). -/
def execGlobalEnable (s : State) : Host.Outcome State Fault Refusal :=
  pairCommand (fun id => id == 0x02) (fun p => writeGlobalEnable p.value) s

/-- SEVERITY (R177). -/
def execSeverity (s : State) : Host.Outcome State Fault Refusal :=
  pairCommand (fun id => id == 0x03) (fun p => writeSeverity p.value) s

/-- TAP_A_CODE (R155). -/
def execTapACode (s : State) : Host.Outcome State Fault Refusal :=
  pairCommand (fun id => id == 0x04) (fun p => writeTapACode p.value) s

/-- TAP_B_CODE (R155). -/
def execTapBCode (s : State) : Host.Outcome State Fault Refusal :=
  pairCommand (fun id => id == 0x05) (fun p => writeTapBCode p.value) s

/-- TAP_ENABLE (R156). -/
def execTapEnable (s : State) : Host.Outcome State Fault Refusal :=
  pairCommand (fun id => id == 0x06) (fun p => writeTapEnable p.value) s

/-- ACTIVATE_HOLD (R114, R177). -/
def execActivateHold (s : State) : Host.Outcome State Fault Refusal :=
  pairCommand (fun id => id == 0x07) (fun p => writeActivateHold p.value) s

/-- LATE_LIMIT (R60, R177). -/
def execLateLimit (s : State) : Host.Outcome State Fault Refusal :=
  pairCommand (fun id => id == 0x08) (fun p => writeLateLimit p.value) s

/-- LEAD (R59, R177). -/
def execLead (s : State) : Host.Outcome State Fault Refusal :=
  pairCommand (fun id => id == 0x09) (fun p => writeLead p.value) s

/-- SCENE_PROTECT (R80, R177). -/
def execSceneProtect (s : State) : Host.Outcome State Fault Refusal :=
  pairCommand (fun id => id == 0x0A) (fun p => writeSceneProtect p.value) s

/-- PANEL_PROTECT (R80, R177). -/
def execPanelProtect (s : State) : Host.Outcome State Fault Refusal :=
  pairCommand (fun id => id == 0x0B) (fun p => writePanelProtect p.value) s

/-- INTERNAL_WIDTH (R141, R177). -/
def execInternalWidth (s : State) : Host.Outcome State Fault Refusal :=
  pairCommand (fun id => id == 0x0C) (fun p => writeInternalWidth p.value) s

/-- INTERNAL_HEIGHT (R141, R177). -/
def execInternalHeight (s : State) : Host.Outcome State Fault Refusal :=
  pairCommand (fun id => id == 0x0D) (fun p => writeInternalHeight p.value) s

/-- INTERNAL_RATE (R141, R177). -/
def execInternalRate (s : State) : Host.Outcome State Fault Refusal :=
  pairCommand (fun id => id == 0x0E) (fun p => writeInternalRate p.value) s

/-- SCENE_ORIGIN_X (R76, R177). -/
def execSceneOriginX (s : State) : Host.Outcome State Fault Refusal :=
  pairCommand (fun id => id == 0x0F) (fun p => writeSceneOriginX p.value) s

/-- SCENE_ORIGIN_Y (R76, R177). -/
def execSceneOriginY (s : State) : Host.Outcome State Fault Refusal :=
  pairCommand (fun id => id == 0x10) (fun p => writeSceneOriginY p.value) s

/-- BORDER_COLOUR (R146, R177). -/
def execBorderColour (s : State) : Host.Outcome State Fault Refusal :=
  pairCommand (fun id => id == 0x11) (fun p => writeBorderColour p.value) s

/-- PANEL_COLOUR (R53). -/
def execPanelColour (s : State) : Host.Outcome State Fault Refusal :=
  pairCommand isPanelColour (fun p => writePanelColour p.id p.value) s

/-- PANEL_COLOUR_0 (R53): accepted, with no effect. -/
def execPanelColour0 (s : State) : Host.Outcome State Fault Refusal :=
  pairCommand (fun id => id == 0x20) (fun _ s => s) s

/-- UNKNOWN_SETTING (R176): the pair is skipped, and SEG_BAD follows once the SET's last pair has been reached. -/
def execUnknownSetting (s : State) : Host.Outcome State Fault Refusal :=
  pairCommand isUnknown (fun _ s => s) s

end Sys2Proof.Machine
end

