-- ==== Sys2Proof/Machine/Dispatch.lean ====
section
/-!
DEFINITION. The dispatch: one arm for each command, each a direct call of its meaning.
-/

namespace Sys2Proof.Machine

def exec (i : Instr) (s : State) : Host.Outcome State Fault Refusal :=
  match i with
  | .segmentHeader h => Sys2Proof.Machine.execSegmentHeader h s
  | .segmentArrivalComplete payload crc => Sys2Proof.Machine.execSegmentArrivalComplete payload crc s
  | .headerCutShort received => Sys2Proof.Machine.execHeaderCutShort received s
  | .arrivalCutShort => Sys2Proof.Machine.execArrivalCutShort s
  | .strayBytes count => Sys2Proof.Machine.execStrayBytes count s
  | .sceneOpen => Sys2Proof.Machine.execSceneOpen s
  | .palette => Sys2Proof.Machine.execPalette s
  | .objectFirstFragment => Sys2Proof.Machine.execObjectFirstFragment s
  | .objectLaterFragment => Sys2Proof.Machine.execObjectLaterFragment s
  | .buttons => Sys2Proof.Machine.execButtons s
  | .layout => Sys2Proof.Machine.execLayout s
  | .cancel => Sys2Proof.Machine.execCancel s
  | .key => Sys2Proof.Machine.execKey s
  | .serveDirectionalKey => Sys2Proof.Machine.execServeDirectionalKey s
  | .serveOkKey => Sys2Proof.Machine.execServeOkKey s
  | .serveNumberKey => Sys2Proof.Machine.execServeNumberKey s
  | .serveUnusedKey => Sys2Proof.Machine.execServeUnusedKey s
  | .holdEnd => Sys2Proof.Machine.execHoldEnd s
  | .planeReqLive => Sys2Proof.Machine.execPlaneReqLive s
  | .planeReqFreeze => Sys2Proof.Machine.execPlaneReqFreeze s
  | .planeReqOff => Sys2Proof.Machine.execPlaneReqOff s
  | .planeReqStandby => Sys2Proof.Machine.execPlaneReqStandby s
  | .restart => Sys2Proof.Machine.execRestart s
  | .eventEnable => Sys2Proof.Machine.execEventEnable s
  | .globalEnable => Sys2Proof.Machine.execGlobalEnable s
  | .severity => Sys2Proof.Machine.execSeverity s
  | .tapACode => Sys2Proof.Machine.execTapACode s
  | .tapBCode => Sys2Proof.Machine.execTapBCode s
  | .tapEnable => Sys2Proof.Machine.execTapEnable s
  | .activateHold => Sys2Proof.Machine.execActivateHold s
  | .lateLimit => Sys2Proof.Machine.execLateLimit s
  | .lead => Sys2Proof.Machine.execLead s
  | .sceneProtect => Sys2Proof.Machine.execSceneProtect s
  | .panelProtect => Sys2Proof.Machine.execPanelProtect s
  | .internalWidth => Sys2Proof.Machine.execInternalWidth s
  | .internalHeight => Sys2Proof.Machine.execInternalHeight s
  | .internalRate => Sys2Proof.Machine.execInternalRate s
  | .sceneOriginX => Sys2Proof.Machine.execSceneOriginX s
  | .sceneOriginY => Sys2Proof.Machine.execSceneOriginY s
  | .borderColour => Sys2Proof.Machine.execBorderColour s
  | .panelColour => Sys2Proof.Machine.execPanelColour s
  | .panelColour0 => Sys2Proof.Machine.execPanelColour0 s
  | .unknownSetting => Sys2Proof.Machine.execUnknownSetting s
  | .query => Sys2Proof.Machine.execQuery s
  | .clearEvents => Sys2Proof.Machine.execClearEvents s
  | .capture => Sys2Proof.Machine.execCapture s
  | .showSource => Sys2Proof.Machine.execShowSource s
  | .pan => Sys2Proof.Machine.execPan s
  | .panelFill => Sys2Proof.Machine.execPanelFill s
  | .panelBitmap => Sys2Proof.Machine.execPanelBitmap s
  | .reset => Sys2Proof.Machine.execReset s
  | .powerOn => Sys2Proof.Machine.execPowerOn s
  | .resetNRelease => Sys2Proof.Machine.execResetNRelease s
  | .resetCompletion held => Sys2Proof.Machine.execResetCompletion held s
  | .reportPick => Sys2Proof.Machine.execReportPick s
  | .reportTransmitted headerBegun => Sys2Proof.Machine.execReportTransmitted headerBegun s
  | .videoInFrameStart ended held => Sys2Proof.Machine.execVideoInFrameStart ended held s
  | .internalFrameStart held => Sys2Proof.Machine.execInternalFrameStart held s
  | .lossTimerExpiry held => Sys2Proof.Machine.execLossTimerExpiry held s
  | .returnToLocked => Sys2Proof.Machine.execReturnToLocked s
  | .tapATick => Sys2Proof.Machine.execTapATick s
  | .tapBTick => Sys2Proof.Machine.execTapBTick s
  | .fadeEnd => Sys2Proof.Machine.execFadeEnd s
  | .panEnd => Sys2Proof.Machine.execPanEnd s
  | .panJumpToEnd => Sys2Proof.Machine.execPanJumpToEnd s
  | .paletteGoesLive p => Sys2Proof.Machine.execPaletteGoesLive p s
  | .pendingTargetEntry => Sys2Proof.Machine.execPendingTargetEntry s
  | .standbyEntry => Sys2Proof.Machine.execStandbyEntry s
  | .wakeCompletion held => Sys2Proof.Machine.execWakeCompletion held s
  | .layoutSubmission => Sys2Proof.Machine.execLayoutSubmission s
  | .flip => Sys2Proof.Machine.execFlip s
  | .updateApplication => Sys2Proof.Machine.execUpdateApplication s
  | .patchFlip => Sys2Proof.Machine.execPatchFlip s
  | .backlogMove => Sys2Proof.Machine.execBacklogMove s
  | .jobStart => Sys2Proof.Machine.execJobStart s
  | .jobCompletion => Sys2Proof.Machine.execJobCompletion s
  | .resyncCompletion => Sys2Proof.Machine.execResyncCompletion s
  | .decodeStart => Sys2Proof.Machine.execDecodeStart s
  | .decodeCompletion => Sys2Proof.Machine.execDecodeCompletion s
  | .copyingPhaseStart => Sys2Proof.Machine.execCopyingPhaseStart s
  | .captureCompletion => Sys2Proof.Machine.execCaptureCompletion s
  | .transitionCompletion => Sys2Proof.Machine.execTransitionCompletion s
  | .setRefused => Sys2Proof.Machine.execSetRefused s
  | .droppedSegmentEnd => Sys2Proof.Machine.execDroppedSegmentEnd s

end Sys2Proof.Machine
end

