-- ==== Sys2Proof/Machine/Scanout.lean ====
section
/-!
DEFINITION. The Scanout Mixer's pixel (R146 to R152): background, still layer, scene layer, panel layer and Video Out, as
functions of the frame latch, the live palettes and the Video In pixel (log 9).
-/

namespace Sys2Proof.Machine

/-! ## Blending (R151) -/

/-- The weight of an alpha: w(a) = a + (a div 128). -/
def weight (a : Nat) : Nat := a + a / 128

/-- One component blended with weight w out of 256. -/
def blend (w top under : Nat) : Nat := (top * w + under * (256 - w) + 128) / 256

/-- A component as a byte. -/
def blendByte (w : Nat) (top under : Byte) : Byte := byteOf (blend w top.toNat under.toNat)

/-- A colour blended over another with weight w. -/
def blendColour (w : Nat) (top under : Colour) : Colour :=
  ⟨blendByte w top.y under.y, blendByte w top.cb under.cb, blendByte w top.cr under.cr⟩

/-- The colour of an entry. -/
def Entry.colour (e : Entry) : Colour := ⟨e.y, e.cb, e.cr⟩

/-- The faded alpha: (A × F + 8) div 16 (R149). -/
def fadedAlpha (a f : Nat) : Nat := (a * f + 8) / 16

/-! ## Layers -/

/-- The background (R146); `video` is the Video In pixel, or none where the frame carries no active pixel there. -/
def background (l : Latch) (video : Option Colour) : Colour :=
  match l.mode with
  | .locked => video.getD l.border
  | .internal => l.border

/-- A source sampled at raster point (x, y) with a view (R147). -/
def sample (l : Latch) (b : Colour) (v : View) (x y : Nat) : Source → Colour
  | .video => b
  | .still i =>
    match l.buffers.get i with
    | .valid w h rows =>
      let px := v.wx + x / v.z
      let py := v.wy + y / v.z
      if px < w ∧ py < h then (rows.getD py []).getD px l.border else l.border
    | .empty | .waiting | .copying .. | .invalid => l.border

/-- The still layer (R147, R148). -/
def stillLayer (l : Latch) (b : Colour) (x y : Nat) : Colour :=
  match l.transition with
  | none => sample l b l.view x y l.shown
  | some t =>
    let ol := sample l b l.view x y t.old
    let nl := sample l b resetView x y t.new
    match t.kind with
    | .cut => if t.k = 0 then ol else nl
    | .dissolve => blendColour (256 * t.k / t.d) nl ol
    | .wipeAcross => if x < l.width * t.k / t.d then nl else ol
    | .wipeDown => if y < l.height * t.k / t.d then nl else ol

/-- The scene index of a plane pixel: its low eight bits (R78). -/
def sceneIndex (v : BitVec 12) : Nat := v.toNat % 256

/-- The panel index of a plane pixel: its high four bits (R78). -/
def panelIndex (v : BitVec 12) : Fin 16 := ⟨v.toNat / 256 % 16, Nat.mod_lt _ (by decide)⟩

/-- The scene layer over the result so far (R149). -/
def sceneLayer (l : Latch) (live : Sparse Entry) (x y : Nat) (under : Colour) : Colour :=
  if l.scene.area.has x y then
    let g := pageAt l.pageMap (x - l.scene.ox) (y - l.scene.oy)
    let c := paletteEntry live (g * 256 + sceneIndex (l.front.pixel x y))
    blendColour (weight (fadedAlpha c.a.toNat l.fade)) c.colour under
  else under

/-- The panel layer over the result so far (R150). -/
def panelLayer (l : Latch) (x y : Nat) (under : Colour) : Colour :=
  let p := panelIndex (l.front.pixel x y)
  if p = 0 then under
  else
    let q := l.panel.get p
    blendColour (weight q.a.toNat) q.colour under

/-- The composed result (R146 to R151). -/
def composed (l : Latch) (live : Sparse Entry) (video : Option Colour) (x y : Nat) : Colour :=
  panelLayer l x y (sceneLayer l live x y (stillLayer l (background l video) x y))

/-- Video Out pixel (x, y) of the frame whose latch is held, none outside the raster and when no frame is scanned (R152).
The live copy of the latched palette is read as it stands, so a flush reaches the frame in progress (R51, R145). After the
entry into STANDBY and in a reset this is the frame in progress, which is completed as it began; once it is, `timePasses` has
dropped its latch. -/
def videoOut (s : State) (video : Option Colour) (x y : Nat) : Option Colour :=
  match s.mixer.frame with
  | none => none
  | some l =>
    if x < l.width ∧ y < l.height then
      match l.output with
      | .live | .frozen => some (composed l (s.palettes.get l.palette).live video x y)
      | .off | .draining | .fault => some (background l video)
      | .standby | .waking => none
    else none

/-! ## Video Out as signals (R152) -/

/-- What Video Out presents: the frame-start pulse, the line-start pulse, or data-enable with a pixel. -/
inductive VideoSignal where
  | frameStart
  | lineStart
  | pixel (c : Colour)
  deriving DecidableEq, Repr

/-- The signals of line y: its line-start pulse and data-enable over RW pixels; `video` gives the Video In pixels. -/
def lineSignals (s : State) (l : Latch) (video : Nat → Nat → Option Colour) (y : Nat) : List VideoSignal :=
  .lineStart :: (List.range l.width).filterMap fun x => (videoOut s (video x y) x y).map .pixel

/-- The output frame of the latch held, up to and with `lines` lines: RH for a frame that is not cut short; a frame cut short
by a loss or a return ends with the line in progress (R142, R143). No frame in STANDBY and WAKING, before the first frame
start, and after the last one. -/
def frameSignals (s : State) (video : Nat → Nat → Option Colour) (lines : Nat) : List VideoSignal :=
  match s.mixer.frame with
  | none => []
  | some l =>
    match l.output with
    | .live | .frozen | .off | .draining | .fault =>
      .frameStart :: (List.range (min lines l.height)).flatMap (lineSignals s l video)
    | .standby | .waking => []

end Sys2Proof.Machine
end

