-- ==== Sys2Proof/Safety.lean ====
section
/-!
DEFINITION. What counts as a safe run: the bounds and agreements the spec states of every state the part can be in, and
the conditions under which a command is described. A safe run never leaves these invariants; the part has no stop.
-/

namespace Sys2Proof.Machine

/-! ## Conditions -/

/-- No event is under way, no backlog id can move, and no drain is due to end (`OutputOk`): a command acts on the state as
it stands. -/
def Ready (s : State) : Prop :=
  s.underway = .nothing ∧ backlogDue s = false ∧ (s.output.state = .draining → drainDone s = false)

/-- Every stored segment passes the checks of R11, so that no parser discards one outside FAULT. -/
def QueuesSound (s : State) : Prop := ∀ ch, ∀ g ∈ (s.link.channel ch).queue, g.checked.isSome

/-- The segment `g` stands at the head of its queue and can be taken as a segment of kind `k`, in a Ready state. -/
def Takes (ch : Channel) (k : SegmentKind) (g : Segment) (s : State) : Prop := Ready s ∧ takeable ch k s = some g

/-- A frame start is under way, `c` is one of the changes it still owes and not the last, and the pending target is not
among the others (R161). -/
def Owes (c : FrameChange) (cs : List FrameChange) (s : State) : Prop :=
  s.underway = .frame cs ∧ c ∈ cs ∧ cs.erase c ≠ [] ∧ (c = .pendingTarget ∨ .pendingTarget ∉ cs)

/-- The frame start under way no longer owes `c`. -/
def made (c : FrameChange) (cs : List FrameChange) (s : State) : State := s.setUnderway (.frame (cs.erase c))

/-- The flag of an event is set (R171). -/
def Flagged (e : Event) (s : State) : Prop := s.events.flags.getLsbD e.num = true

/-- The PATCH that a request for button `b` adds to the Draw Queue while there is room (R82, R118): one for a button of the
live table with LOOK_OBJECT that has none waiting. -/
def newPatch (s : State) (b : ButtonId) : List Job :=
  match s.nav.table.button b with
  | some btn => if btn.lookObject && !s.draw.hasPatch b && !s.sched.backlog.contains b then [.patch b] else []
  | none => []

/-- The buttons that the Update Backlog puts into the Draw Queue where there is room: those it names that have no unstarted
PATCH queued (R67). -/
def waitingIds (s : State) : List ButtonId :=
  (List.finRange 48).filter fun b => s.sched.backlog.contains b && !s.draw.hasPatch b

/-- The jobs and the Update Backlog ids that a request for a PATCH of the button, if there is one, adds (R82): a job while
the Draw Queue has room, otherwise an id. -/
def askedPatch (s : State) (b : Option ButtonId) : List Job × List ButtonId :=
  match b with
  | none => ([], [])
  | some b =>
    if newPatch s b = [] then ([], [])
    else if s.draw.queue.length < Config.drawQueueMax then ([.patch b], [])
    else ([], [b])

/-- The offset of the `n`-th button record in the payload of a BUTTONS (12.2): 20 bytes a record, 4 more with LOOK_OBJECT and
2 more with HAS_ANIM. -/
def buttonAt (p : List Byte) : Nat → Nat
  | 0 => 4
  | n + 1 =>
    let a := buttonAt p n
    let flags := p.getD (a + 1) 0
    a + 20 + (if flags.getLsbD 0 then 4 else 0) + (if flags.getLsbD 4 then 2 else 0)

/-- The offset of the `n`-th placement in the payload of a LAYOUT (12.2): 6 bytes a placement, 14 with CROPPED. -/
def placementAt (p : List Byte) : Nat → Nat
  | 0 => 8
  | n + 1 => placementAt p n + (if (p.getD (placementAt p n + 1) 0).getLsbD 1 then 14 else 6)

/-- The command for a pair of a SET with this Setting id (11.2). -/
def settingCommand (id : Byte) : Instr :=
  match id.toNat with
  | 0x01 => .eventEnable
  | 0x02 => .globalEnable
  | 0x03 => .severity
  | 0x04 => .tapACode
  | 0x05 => .tapBCode
  | 0x06 => .tapEnable
  | 0x07 => .activateHold
  | 0x08 => .lateLimit
  | 0x09 => .lead
  | 0x0A => .sceneProtect
  | 0x0B => .panelProtect
  | 0x0C => .internalWidth
  | 0x0D => .internalHeight
  | 0x0E => .internalRate
  | 0x0F => .sceneOriginX
  | 0x10 => .sceneOriginY
  | 0x11 => .borderColour
  | 0x20 => .panelColour0
  | _ => if isPanelColour id then .panelColour else .unknownSetting

/-- The outcome of commands executed one after another. -/
def runs : List Instr → State → Host.Outcome State Fault Refusal
  | [], s => .next s
  | c :: cs, s =>
    match exec c s with
    | .next t => runs cs t
    | .fault f => .fault f
    | .refused r => .refused r

/-- The part after a loss of video (R142), before its frame start: INTERNAL at the internal size and rate, no return counted,
a capture in flight ended INVALID with LOST (R128), VIDEO_LOSS raised. -/
def afterLoss (s : State) : State :=
  { s with
    raster := { s.raster with
      mode := .internal, width := s.settings.internalWidth, height := s.settings.internalHeight
      rate := s.settings.internalRate, returnCount := 0, candidate := none }
    still := if s.still.captureInFlight then
        { s.still with last := .lost, buffers := s.still.buffers.map fun b => if b.capturing then .invalid else b }
      else s.still
    events := (if s.still.captureInFlight then s.events.raise .stillFail else s.events).raise .videoLoss }

/-! ## Frames -/

/-- The fields of State, as names. -/
inductive Block where
  | pending | underway | link | sender | objects | palettes | panel | sched | draw | nav
  | still | raster | mixer | divider | output | events | settings | resetCtl
  deriving DecidableEq, Repr

/-- Two states agree on a field. -/
def Block.agrees (s t : State) : Block → Prop
  | .pending => t.pending = s.pending
  | .underway => t.underway = s.underway
  | .link => t.link = s.link
  | .sender => t.sender = s.sender
  | .objects => t.objects = s.objects
  | .palettes => t.palettes = s.palettes
  | .panel => t.panel = s.panel
  | .sched => t.sched = s.sched
  | .draw => t.draw = s.draw
  | .nav => t.nav = s.nav
  | .still => t.still = s.still
  | .raster => t.raster = s.raster
  | .mixer => t.mixer = s.mixer
  | .divider => t.divider = s.divider
  | .output => t.output = s.output
  | .events => t.events = s.events
  | .settings => t.settings = s.settings
  | .resetCtl => t.resetCtl = s.resetCtl

/-- `t` differs from `s` in the fields of `bs` at most. -/
def OnlyChanges (bs : List Block) (s t : State) : Prop := ∀ b : Block, b ∉ bs → b.agrees s t

/-- `c`, the command of the change `f`, closes a frame start that owes `f` alone: it does what it does while another change
is still owed (here the panel colours), and then the event ends with the frame latch (R145) and the test of the drain
condition (R162). -/
def ClosesFrame (c : Instr) (f : FrameChange) : Prop :=
  ∀ s : State, s.underway = .frame [f] →
    ∃ u, exec c (s.setUnderway (.frame [f, .panelColours])) = .next u ∧ u.underway = .frame [.panelColours] ∧
      let latch : Latch :=
        { mode := u.raster.mode, width := u.raster.width, height := u.raster.height, output := u.output.state
          border := u.settings.border, pageMap := u.nav.pageMap, front := u.draw.front
          palette := u.sched.front.palette, fade := u.sched.fade, scene := u.sched.scene, panel := u.panel.shown
          shown := u.still.shown, view := u.still.view, transition := u.still.transition
          buffers := u.still.buffers }
      exec c s = .next (parsersGoOn (endDrain ((u.setUnderway .nothing).setMixer { frame := some latch })))

/-! ## Invariants -/

/-- The plane buffers, the palettes and the latched Front pixels are in canonical form. -/
def State.buffersWf (s : State) : Bool :=
  Sparse.wf 0 s.draw.planeX && Sparse.wf 0 s.draw.planeY
    && s.palettes.toList.all (fun p => Sparse.wf clearEntry p.live &&
      match p.staged with
      | some (m, _) => Sparse.wf clearEntry m
      | none => true)
    && match s.mixer.frame with
      | some l => Sparse.wf 0 l.front
      | none => true

/-- R7: occupied and pending units of a channel never exceed its capacity. -/
def UnitsBound (s : State) : Prop :=
  ∀ ch : Channel, s.link.occupied ch + (s.link.channel ch).credits ≤ ch.capacity

/-- The queues keep their bounds (R32, R57, R82, R107), and the Update Backlog names no button twice (R67). -/
def QueueBounds (s : State) : Prop :=
  s.sched.queue.length ≤ 4 ∧ s.draw.queue.length ≤ 16 ∧ s.nav.keys.length ≤ 8 ∧ s.objects.decodeQueue.length ≤ 8 ∧
    s.sched.backlog.Nodup

/-- A parser is STOPPED in STANDBY and WAKING, and in no other state (R9). -/
def ParsersMatchState (s : State) : Prop :=
  ∀ ch : Channel, (s.link.channel ch).parser.stopped = true ↔ (s.output.state = .standby ∨ s.output.state = .waking)

/-- Output Control holds a pending target in LIVE, FROZEN and OFF only (R161, R162, R166), and in DRAINING the drain
condition has been tested: it does not hold, unless a frame start is still under way (R162). -/
structure OutputOk (s : State) : Prop where
  target : s.output.target.isSome = true → s.output.state = .live ∨ s.output.state = .frozen ∨ s.output.state = .off
  tested : s.output.state = .draining → s.underway = .nothing ∨ (∃ ps b, s.underway = .set ps b) → drainDone s = false

/-- The discard window and the reset (R16, R17, R169): while the window is open no segment is stored, in arrival or in its
header outside the window, and no credit is pending; a READY that waits or is in transmission keeps the window open; and
from the start of a reset to its completion the window is open, no READY waits, nothing is under way, both parsers are
RUNNING, no event is FATAL, the timing mode is INTERNAL and Output Control is at its power-on values. -/
structure ResetOk (s : State) : Prop where
  silent : s.link.window = true → (∀ ch : Channel, (s.link.channel ch).queue = [] ∧ (s.link.channel ch).credits = 0) ∧
    s.link.rx ≠ .header false ∧ ∀ h, s.link.rx ≠ .arriving h
  ready : s.sender.ready = true ∨ (∃ r, s.sender.transmitting = some r ∧ r.kind = .ready) → s.link.window = true
  once : s.sender.ready = true → ∀ r, s.sender.transmitting = some r → r.kind ≠ .ready
  inReset : s.resetCtl.phase ≠ .complete → s.link.window = true ∧ s.sender.ready = false ∧
    (∀ r, s.sender.transmitting = some r → r.kind ≠ .ready) ∧ s.underway = .nothing ∧ s.events.fatal = 0 ∧
    s.raster.mode = .internal ∧ s.output = { state := .off, target := none, lastRequest := .none } ∧
    ∀ ch : Channel, (s.link.channel ch).parser.stopped = false

/-- Coded bytes a slot may come to hold: CodedLength while ASSEMBLING, the coded bytes after that (R23). -/
def Slot.codedClaim : Slot → Nat
  | .assembling _ _ len _ _ => len
  | .queued _ _ _ coded => coded.length
  | .decoding _ _ _ coded => coded.length
  | .empty | .ready .. | .damaged .. | .broken _ => 0

/-- The fields of a slot keep their bounds: Received at most CodedLength, CodedLength at most 262,144 (R23, R29, R30). -/
def Slot.fieldsOk : Slot → Bool
  | .assembling _ _ len coded _ => decide (coded.length ≤ len) && decide (len ≤ Config.codedObjectMax)
  | .queued _ _ len coded => decide (coded.length = len) && decide (len ≤ Config.codedObjectMax)
  | .decoding _ _ len coded => decide (coded.length = len) && decide (len ≤ Config.codedObjectMax)
  | .empty | .ready .. | .damaged .. | .broken _ => true

def Slot.isQueued : Slot → Bool
  | .queued .. => true
  | .empty | .assembling .. | .decoding .. | .ready .. | .damaged .. | .broken _ => false

def Slot.isDecoding : Slot → Bool
  | .decoding .. => true
  | .empty | .assembling .. | .queued .. | .ready .. | .damaged .. | .broken _ => false

/-- The Object Store's agreements: the Pixel Budget and the Coded Area keep their bounds (R22, R23), at most one object
assembles (R25), the Decode Queue names each QUEUED object once and no other (R32), and the decoder's record names the
DECODING object (R33). -/
structure ObjectsOk (o : ObjectStore) : Prop where
  budget : o.budgetUsed ≤ Config.pixelBudget
  area : (o.slots.toList.map Slot.codedClaim).sum ≤ Config.codedArea
  fields : o.slots.toList.all Slot.fieldsOk = true
  oneAssembling : ∀ i j : ObjectId, (o.slot i).isAssembling = true → (o.slot j).isAssembling = true → i = j
  queuedOnce : o.decodeQueue.Nodup
  queued : ∀ k : ObjectId, k ∈ o.decodeQueue ↔ (o.slot k).isQueued = true
  decoding : ∀ k : ObjectId, o.decoder = some k ↔ (o.slot k).isDecoding = true

/-- While a hold runs, the result slot is empty (R108) and no key waits to be answered UNUSED; marked keys stand before
unmarked ones (R121). -/
def HoldOk (s : State) : Prop :=
  s.nav.keys.Pairwise (fun a b => b.marked = true → a.marked = true) ∧
    (s.nav.hold.isSome = true → s.nav.result = none ∧ ∀ k ∈ s.nav.keys, k.marked = false)

/-- The laws of R105: the ids of every table differ, a state is held for each button of the live table and for no other,
the Selection names a button of it that is not MUTED, that button is SELECTED, or ACTIVATED while its hold runs, every
other button is in its base state, and a hold is the Selection's. -/
structure ButtonsOk (n : Nav) : Prop where
  liveIds : ∀ t : TableId, ((n.tables.get t).live.buttons.map Button.id).Nodup
  stagedIds : ∀ (t : TableId) (tbl : Table), (n.tables.get t).staged = some tbl → (tbl.buttons.map Button.id).Nodup
  held : n.states.map Prod.fst = n.table.buttons.map Button.id
  selection : ∀ b, n.selection = some b → n.table.selectable b = true
  states : ∀ b ∈ n.table.buttons, n.stateOf b.id =
    if n.selection = some b.id then (if n.hold.isSome then .activated else .selected) else b.base
  hold : ∀ h, n.hold = some h → n.selection = some h.button

/-- The laws of the Still Unit: what is shown, and both sources of a transition, are VIDEO or VALID stills (R126), at most
one buffer is being captured, and the zooms and step counts keep their ranges (R124, R129, R132). -/
structure StillsOk (st : Still) : Prop where
  shown : st.showable st.shown = true
  transition : ∀ t, st.transition = some t → st.showable t.old = true ∧ st.showable t.new = true
  duration : ∀ t, st.transition = some t → 1 ≤ t.d ∧ t.d ≤ 255 ∧ t.k ≤ t.d
  oneCapture : ¬ ((st.buffers.get 0).capturing = true ∧ (st.buffers.get 1).capturing = true)
  zoom : 1 ≤ st.view.z ∧ st.view.z ≤ 8
  pan : ∀ p, st.pan = some p → 1 ≤ p.zs ∧ p.zs ≤ 8 ∧ 1 ≤ p.ze ∧ p.ze ≤ 8 ∧ 1 ≤ p.n ∧ p.n ≤ 1024 ∧ p.i ≤ p.n

/-- A capture is in flight in LOCKED mode only (R126, R128). -/
def CaptureNeedsVideo (s : State) : Prop := s.raster.mode = .internal → s.still.captureInFlight = false

/-- The settings, the raster size with its candidate, the scene record and the fade level, also as latched, keep their
ranges (R70, R73, R138, R141, R177). -/
structure RangesOk (s : State) : Prop where
  activateHold : s.settings.activateHold ≤ 255
  lateLimit : s.settings.lateLimit ≤ 255
  lead : s.settings.lead ≤ 15
  internalWidth : 16 ≤ s.settings.internalWidth ∧ s.settings.internalWidth ≤ 1920
  internalHeight : 16 ≤ s.settings.internalHeight ∧ s.settings.internalHeight ≤ 1080
  originX : ∀ x, s.settings.originX = some x → x ≤ 1919
  originY : ∀ y, s.settings.originY = some y → y ≤ 1079
  raster : 16 ≤ s.raster.width ∧ s.raster.width ≤ 1920 ∧ 16 ≤ s.raster.height ∧ s.raster.height ≤ 1080
  candidate : ∀ w h, s.raster.candidate = some (w, h) → 16 ≤ w ∧ w ≤ 1920 ∧ 16 ≤ h ∧ h ≤ 1080
  scene : 16 ≤ s.sched.scene.w ∧ s.sched.scene.w ≤ 1920 ∧ 16 ≤ s.sched.scene.h ∧ s.sched.scene.h ≤ 1080
  origin : s.sched.scene.ox ≤ 1919 ∧ s.sched.scene.oy ≤ 1079
  fade : s.sched.fade ≤ 16
  latchedFade : ∀ l, s.mixer.frame = some l → l.fade ≤ 16

end Sys2Proof.Machine
end

