-- ==== Sys2Proof/Certificates/Slice0/Obligations.lean ====
section
/-!
DEFINITION. The statements for the provers. Most conclude that `exec` answers a next state: `parsersGoOn` of a state
written out from the rule, since after every command the parsers go on with what now stands at their heads (R9).
`ParsersOnlyDiscard` and `SoundQueuesAreKept` say what that can change.
-/

section
open Sys2Proof Sys2Proof.Machine

/-! ## Steps, parsers, reset -/

/-- The model's own queue (log 1): a step executes the front command with the queue's rest. On an empty queue the part
idles; where no frame starts occur, the frame in progress has then been completed and its latch is dropped (log 9). -/
def Obligations.StepRunsFrontCommand : Prop :=
  (∀ (c : Instr) (cs : List Instr) (s : State), s.pending = c :: cs → step s = exec c (s.setPending cs)) ∧
  (∀ s : State, s.pending = [] → step s = .next (if framesRun s then s else s.setMixer { frame := none }))

/-- Every command answers a next state in every state and leaves the queue of waiting commands as it is. Both are the
model's: that a command whose event cannot occur in the present state is answered so is its choice (log 2), and the queue is
its own (log 1). -/
def Obligations.EveryCommandAnswersNext : Prop :=
  ∀ (c : Instr) (s : State), ∃ t, exec c s = .next t ∧ t.pending = s.pending

/-- What follows a command (R9 to R15), which the model makes inside that command (log 6). Each parser that is not STOPPED
discards from the front of its queue exactly the segments that fail a check of R11 and, in FAULT, those that R13 and R15
discard, up to the first segment it keeps, whose hold it takes up (its reason: HoldConditions, log 26); a STOPPED parser
does nothing. The units go to the pending credits. SEG_BAD is raised for a failing segment, and a fragment of the ASSEMBLING
object with a bad CRC breaks that object with OBJ_BROKEN. Output Control can only enter FAULT, and does so where SEG_BAD or
OBJ_BROKEN was raised as FATAL. No flag but those four changes, none is cleared, and a flag newly set joins the notices when
it is enabled. Nothing else changes. -/
def Obligations.ParsersOnlyDiscard : Prop :=
  ∀ s : State, let u := parsersGoOn s
    (∃ gone : Channel → List Segment,
      (∀ ch : Channel,
        (s.link.channel ch).queue = gone ch ++ (u.link.channel ch).queue ∧
        (u.link.channel ch).credits = (s.link.channel ch).credits + ((gone ch).map fun g => unitsOf g.header).sum ∧
        (u.link.channel ch).parser.stopped = (s.link.channel ch).parser.stopped ∧
        ((s.link.channel ch).parser.stopped = true → u.link.channel ch = s.link.channel ch) ∧
        ((s.link.channel ch).parser.stopped = false →
          ((u.link.channel ch).queue = [] → (u.link.channel ch).parser.hold = none) ∧
          ∀ g gs, (u.link.channel ch).queue = g :: gs → ∃ k, g.checked = some k ∧
            ¬ (u.output.state = .fault ∧ k.droppedInFault = true) ∧
            (u.link.channel ch).parser.hold = holdReason u k g) ∧
        (∀ g ∈ gone ch,
          (g.checked = none ∧ Flagged .segBad u ∧
            (s.output.state.canFault = true → s.events.fatal.getLsbD 0 = true → u.output.state = .fault)) ∨
          ∃ k, g.checked = some k ∧ k.droppedInFault = true ∧ u.output.state = .fault) ∧
        (∀ g ∈ gone ch, ∀ k : ObjectId, g.crcOk = false → g.header.kind = 3 → g.header.tag.toNat = k.val →
          (s.objects.slot k).isAssembling = true → u.objects.slot k = .broken false ∧ Flagged .objBroken u ∧
            (s.output.state.canFault = true → s.events.fatal.getLsbD 2 = true → u.output.state = .fault))) ∧
      (Flagged .segBad u → Flagged .segBad s ∨ ∃ ch, ∃ g ∈ gone ch, g.checked = none) ∧
      (∀ k : ObjectId, u.objects.slot k = s.objects.slot k ∨
        ((s.objects.slot k).isAssembling = true ∧ u.objects.slot k = .broken false ∧ Flagged .objBroken u ∧
          ∃ ch, ∃ g ∈ gone ch, g.crcOk = false ∧ g.header.kind = 3 ∧ g.header.tag.toNat = k.val))) ∧
    u.link.rx = s.link.rx ∧ u.link.window = s.link.window ∧
    u.objects.decodeQueue = s.objects.decodeQueue ∧ u.objects.decoder = s.objects.decoder ∧
    u.objects.pins = s.objects.pins ∧
    (∀ e : Event, Flagged e s → Flagged e u) ∧
    (∀ e : Event, e ∉ [Event.segBad, .objBroken, .fault, .stateChange] → Flagged e u → Flagged e s) ∧
    (Flagged .objBroken u → Flagged .objBroken s ∨ u.objects ≠ s.objects) ∧
    u.events.notices = s.events.notices ||| (u.events.flags &&& ~~~s.events.flags &&& s.events.enables) ∧
    u.events.enables = s.events.enables ∧ u.events.globalEnable = s.events.globalEnable ∧
    u.events.fatal = s.events.fatal ∧
    ((u.output = s.output ∧ (Flagged .fault u → Flagged .fault s) ∧ (Flagged .stateChange u → Flagged .stateChange s)) ∨
      (s.output.state.canFault = true ∧ s.events.fatal ≠ 0 ∧ Flagged .fault u ∧ Flagged .stateChange u ∧
        u.output = { s.output with state := .fault, target := none })) ∧
    OnlyChanges [.link, .objects, .events, .output] s u

/-- The checks of R11, and what the parsers do where every stored segment passes them. A segment passes as a kind exactly when
its CRC is the one over its header and payload, its Kind byte is the kind's, its Tag is among the kind's codes, and its
payload has the bytes that the kind's layout and count fields require (12.2, 12.3). Where every stored segment passes and the
part is not in FAULT, the parsers change hold reasons only: each running parser's is what R12 and R14 say of its head. -/
def Obligations.SoundQueuesAreKept : Prop :=
  (∀ (g : Segment) (k : SegmentKind),
    let p := g.payload
    let hi (n : Nat) : Byte := BitVec.ofNat 8 (n / 256)
    let lo (n : Nat) : Byte := BitVec.ofNat 8 n
    let header := [g.header.kind, g.header.flags, hi g.header.length.toNat, lo g.header.length.toNat,
      hi g.header.target.toNat, lo g.header.target.toNat, g.header.tag, g.header.seq]
    let kindByte := match k with
      | .sceneOpen => 0x01
      | .palette => 0x02
      | .object => 0x03
      | .buttons => 0x04
      | .layout => 0x05
      | .cancel => 0x06
      | .key => 0x41
      | .planeReq => 0x42
      | .set => 0x43
      | .query => 0x44
      | .clearEvents => 0x45
      | .capture => 0x46
      | .showSource => 0x47
      | .pan => 0x48
      | .panelFill => 0x49
      | .panelBitmap => 0x4A
      | .reset => 0x4F
    let tags := match k with
      | .palette => 8
      | .object => 64
      | .buttons => 4
      | .key => 6
      | .planeReq => 5
      | .capture => 2
      | .showSource => 3
      | .sceneOpen | .layout | .cancel | .set | .query | .clearEvents | .pan | .panelFill | .panelBitmap | .reset => 256
    let needed := match k with
      | .sceneOpen => 8
      | .palette => 4 + 6 * u16 p 2
      | .object => if g.header.flags.getLsbD 0 then 10 else 0
      | .buttons => buttonAt p (u8 p 2)
      | .layout => placementAt p (u8 p 7)
      | .key => if g.header.tag = 5 then 1 else 0
      | .set => 1 + 5 * u8 p 0
      | .clearEvents | .showSource => 2
      | .pan => 12
      | .panelFill => 9
      | .panelBitmap => 9 + u16 p 6 * ((u16 p 4 + 7) / 8)
      | .cancel | .planeReq | .query | .capture | .reset => 0
    g.checked = some k ↔ crc16 (header ++ p) = g.crc ∧ g.header.kind.toNat = kindByte ∧ g.header.tag.toNat < tags ∧
      needed ≤ p.length) ∧
  ∀ s : State, QueuesSound s → s.output.state ≠ .fault →
    (parsersGoOn s).objects = s.objects ∧ (parsersGoOn s).events = s.events ∧ (parsersGoOn s).output = s.output ∧
    ∀ ch : Channel,
      ((parsersGoOn s).link.channel ch).queue = (s.link.channel ch).queue ∧
      ((parsersGoOn s).link.channel ch).credits = (s.link.channel ch).credits ∧
      ((s.link.channel ch).parser.stopped = true →
        ((parsersGoOn s).link.channel ch).parser = (s.link.channel ch).parser) ∧
      ((s.link.channel ch).parser.stopped = false →
        ((s.link.channel ch).queue = [] → ((parsersGoOn s).link.channel ch).parser.hold = none) ∧
        ∀ g gs k, (s.link.channel ch).queue = g :: gs → g.checked = some k →
          ((parsersGoOn s).link.channel ch).parser.hold = holdReason s k g)

/-- The values the spec gives for power-on, block by block. That State.reset is the moment of RESET_N's assertion is the
model's reading (log 7), and that the frame latch is none then its choice (log 9). -/
def Obligations.ResetValues : Prop :=
  (State.reset.link.window = true ∧ State.reset.link.free .graphics = 112 ∧ State.reset.link.free .management = 16 ∧
    ∀ ch : Channel, (State.reset.link.channel ch).queue = [] ∧ (State.reset.link.channel ch).credits = 0 ∧
      (State.reset.link.channel ch).parser = { stopped := false, hold := none }) ∧
  (∀ k : ObjectId, State.reset.objects.slot k = .empty) ∧ State.reset.objects.decodeQueue = [] ∧
  State.reset.objects.decoder = none ∧ State.reset.objects.pins = [] ∧
  State.reset.sender = { transmitting := none, nextSeq := 0, ready := false, status := none } ∧
  State.reset.resetCtl.cause = .powerOn ∧ State.reset.mixer.frame = none ∧
  (∀ (p : PaletteId) (slot : Nat), paletteEntry (State.reset.palettes.get p).live slot = ⟨16, 128, 128, 0⟩ ∧
    (State.reset.palettes.get p).staged = none) ∧
  (∀ n : Fin 16, State.reset.panel.written.get n = ⟨16, 128, 128, 0⟩ ∧
    State.reset.panel.shown.get n = ⟨16, 128, 128, 0⟩) ∧
  (State.reset.sched.queue = [] ∧ State.reset.sched.back = none ∧ State.reset.sched.backlog = [] ∧
    State.reset.sched.front = { number := 0, palette := 0, table := none, placements := [] } ∧
    State.reset.sched.scene = { number := 0, w := 1920, h := 1080, ox := 0, oy := 0 } ∧
    State.reset.sched.fade = 16 ∧ State.reset.sched.fadeDir = .none) ∧
  (∀ x y : Nat, State.reset.draw.front.pixel x y = 0 ∧ State.reset.draw.back.pixel x y = 0) ∧
  (State.reset.draw.frontIsX = true ∧ State.reset.draw.queue = [] ∧ State.reset.draw.engine = .idle) ∧
  (State.reset.nav.liveTable = none ∧ State.reset.nav.selection = none ∧ State.reset.nav.keys = [] ∧
    State.reset.nav.hold = none ∧ State.reset.nav.anim = 0 ∧ State.reset.nav.result = none ∧
    State.reset.nav.states = [] ∧ ∀ t : TableId, State.reset.nav.tables.get t =
      { live := { default := none, buttons := [] }, staged := none }) ∧
  (∀ b : Fin 2, State.reset.still.buffers.get b = .empty) ∧
  (State.reset.still.shown = .video ∧ State.reset.still.view = { wx := 0, wy := 0, z := 1 } ∧
    State.reset.still.transition = none ∧ State.reset.still.pan = none ∧ State.reset.still.last = .none) ∧
  (State.reset.raster.mode = .internal ∧ State.reset.raster.width = 1920 ∧ State.reset.raster.height = 1080 ∧
    State.reset.raster.fc = 0 ∧ State.reset.raster.rate = .fps60 ∧ State.reset.raster.lossTimer = none ∧
    State.reset.raster.returnCount = 0 ∧ State.reset.raster.candidate = none) ∧
  State.reset.divider =
    { count := 0, running := true, tapA := { code := 2, buffered := none, enabled := true }
      tapB := { code := 1, buffered := none, enabled := true } } ∧
  State.reset.output = { state := .off, target := none, lastRequest := .none } ∧
  State.reset.events = { flags := 0, enables := 0, globalEnable := false, fatal := 0, notices := 0 } ∧
  State.reset.events.attention = false ∧
  State.reset.settings =
    { activateHold := 6, lateLimit := 8, lead := 2, sceneProtect := 0xF00, panelProtect := 0x0FF
      internalWidth := 1920, internalHeight := 1080, internalRate := .fps60, originX := none, originY := none
      border := ⟨16, 128, 128⟩ }

/-! ## Invariants that every step keeps -/

/-- The reset state meets every invariant. -/
def Obligations.ResetMeetsInvariants : Prop :=
  State.reset.buffersWf = true ∧ UnitsBound State.reset ∧ QueueBounds State.reset ∧ ParsersMatchState State.reset ∧
    ObjectsOk State.reset.objects ∧ HoldOk State.reset ∧ ButtonsOk State.reset.nav ∧
    StillsOk State.reset.still ∧ CaptureNeedsVideo State.reset ∧ RangesOk State.reset ∧ OutputOk State.reset ∧ ResetOk State.reset

/-- Every step keeps the plane buffers, the palettes and the latched Front pixels in canonical form. -/
def Obligations.BuffersStayCanonical : Prop :=
  ∀ s t : State, s.buffersWf = true → step s = .next t → t.buffersWf = true

/-- Every step keeps the units of each channel, occupied and awaiting return, within the channel's capacity (R7). -/
def Obligations.UnitsStayWithinCapacity : Prop :=
  ∀ s t : State, UnitsBound s → step s = .next t → UnitsBound t

/-- Every step keeps the bounds of the Layout, Draw, Key and Decode Queues and of the Update Backlog. -/
def Obligations.QueuesStayBounded : Prop :=
  ∀ s t : State, QueueBounds s → step s = .next t → QueueBounds t

/-- Every step keeps the parsers STOPPED in STANDBY and WAKING and in no other output state. Every step keeps a pending
target to LIVE, FROZEN and OFF, and the drain condition false in DRAINING between events: the event that fulfils it also
enters STANDBY (R162; when the test is made is log 23). Every step keeps the link silent while the discard window is open, and
both parsers RUNNING with empty queues until a reset is complete (R16, R17, R169). -/
def Obligations.ParsersStopInStandbyOnly : Prop :=
  (∀ s t : State, ParsersMatchState s → step s = .next t → ParsersMatchState t) ∧
  (∀ s t : State, OutputOk s → step s = .next t → OutputOk t) ∧
  (∀ s t : State, ResetOk s → step s = .next t → ResetOk t)

/-- Every step keeps the Object Store's bounds and agreements. -/
def Obligations.ObjectStoreKeepsItsLaws : Prop :=
  ∀ s t : State, ObjectsOk s.objects → step s = .next t → ObjectsOk t.objects

/-- Every step keeps the result slot empty while a hold runs, and marked keys before unmarked ones. -/
def Obligations.HoldKeepsResultEmpty : Prop :=
  ∀ s t : State, HoldOk s → step s = .next t → HoldOk t

/-- Every step keeps the laws of the Selection and the button states. -/
def Obligations.ButtonsKeepTheirLaws : Prop :=
  ∀ s t : State, ButtonsOk s.nav → step s = .next t → ButtonsOk t.nav

/-- Every step keeps what is shown VALID and apart from the capture, the ranges of views, transitions and pans, and, by itself,
that no capture is in flight in INTERNAL mode. -/
def Obligations.StillsKeepTheirLaws : Prop :=
  (∀ s t : State, StillsOk s.still → step s = .next t → StillsOk t.still) ∧
  ∀ s t : State, CaptureNeedsVideo s → step s = .next t → CaptureNeedsVideo t

/-- Every step keeps the ranges of the settings, the raster, the scene record and the fade level. -/
def Obligations.RangesAreKept : Prop :=
  ∀ s t : State, RangesOk s → step s = .next t → RangesOk t

/-! ## The Segment Link -/

/-- The CRC of the ASCII digits is the one the spec gives, and a QUERY's CRC is computed over its eight header bytes. The
bytes of every report are its eight header bytes, its payload and the CRC over both, high byte first (R4, R18), and a
KEY_RESULT's payload is the ten bytes of R181. -/
def Obligations.CrcExamples : Prop :=
  crc16 [0x31, 0x32, 0x33, 0x34, 0x35, 0x36, 0x37, 0x38, 0x39] = 0x29B1 ∧
  (⟨⟨0x44, 0, 0, 0, 0, 0⟩, [], crc16 [0x44, 0, 0, 0, 0, 0, 0, 0]⟩ : Segment).crcOk = true ∧
  (∀ r : Report, r.payload.length < 65536 →
    let hi (n : Nat) : Byte := BitVec.ofNat 8 (n / 256)
    let lo (n : Nat) : Byte := BitVec.ofNat 8 n
    let kind : Byte := match r.kind with
      | .ready => 0x81
      | .credit => 0x82
      | .status => 0x83
      | .keyResult => 0x84
      | .notice => 0x85
    let body := [kind, 0, hi r.payload.length, lo r.payload.length, hi r.target.toNat, lo r.target.toNat, r.tag, r.seq] ++
      r.payload
    r.bytes = body ++ [hi (crc16 body).toNat, lo (crc16 body).toNat]) ∧
  ∀ r : KeyResult,
    r.bytes.length = 10 ∧
    u8 r.bytes 0 = (match r.code with
      | .up => 0
      | .down => 1
      | .left => 2
      | .right => 3
      | .ok => 4
      | .number => 5) ∧
    u8 r.bytes 1 = (match r.outcome with
      | .moved => 0
      | .stayed => 1
      | .activated => 2
      | .unused => 3) ∧
    u8 r.bytes 2 = (match r.button with
      | some b => b.val
      | none => 255) ∧
    u8 r.bytes 3 = 0 ∧ u16 r.bytes 4 = r.layout.toNat ∧ u32 r.bytes 6 = r.command.toNat

/-- SEGMENT_HEADER, whatever is being framed. A header that is under way goes on; otherwise a segment begins, and one that was
arriving is cut short with SEG_BAD. A segment that began in the discard window is dropped and nothing else happens. For any
other the arrival is signalled, which in STANDBY starts WAKING, and the three checks of R5 decide in their order. -/
def Obligations.HeaderChecks : Prop :=
  ∀ (h : Header) (s : State), Ready s →
    let begun := match s.link.rx with
      | .arriving _ => raise .segBad (setRx (.waiting false) s)
      | .header _ | .waiting _ | .dropping => s
    let dropped := match s.link.rx with
      | .header d => d
      | .arriving _ | .waiting _ | .dropping => s.link.window
    let s1 := if begun.output.state = .standby then setOutputState .waking begun else begun
    let bad : Host.Outcome State Fault Refusal := .next (parsersGoOn (raise .segBad (setRx .dropping s1)))
    (dropped = true → exec (.segmentHeader h) s = .next (parsersGoOn (setRx .dropping begun))) ∧
    (dropped = false →
      (h.kind.toNat = 0 ∨ 0x7F < h.kind.toNat → exec (.segmentHeader h) s = bad) ∧
      ∀ (ch : Channel) (largest capacity : Nat),
        (ch = .graphics ∧ 1 ≤ h.kind.toNat ∧ h.kind.toNat ≤ 0x3F ∧ largest = 2038 ∧ capacity = 112) ∨
          (ch = .management ∧ 0x40 ≤ h.kind.toNat ∧ h.kind.toNat ≤ 0x7F ∧ largest = 1014 ∧ capacity = 16) →
        let units := (10 + h.length.toNat + 63) / 64
        let free := capacity - (s.link.channel ch).units - (s.link.channel ch).credits
        (largest < h.length.toNat → exec (.segmentHeader h) s = bad) ∧
        (h.length.toNat ≤ largest → free < units →
          exec (.segmentHeader h) s = .next (parsersGoOn (raise .overrun (setRx .dropping s1)))) ∧
        (h.length.toNat ≤ largest → units ≤ free →
          exec (.segmentHeader h) s = .next (parsersGoOn (setRx (.arriving h) s1))))

/-- SEGMENT_ARRIVAL_COMPLETE: the accepted segment joins the end of its channel's queue. One whose CRC does not match,
arriving at an empty queue of a running parser, is discarded at once: its units go to the pending credits and SEG_BAD is
raised, and a fragment of the ASSEMBLING object breaks that object. That the discard is made inside this command is the
model's form (log 6), and that an arrival whose header came before STANDBY does not wake the part its reading (log 22). -/
def Obligations.SegmentArrives : Prop :=
  ∀ (payload : List Byte) (crc : Word16) (h : Header) (ch : Channel) (s : State), Ready s →
    s.link.rx = .arriving h → channelOf h.kind = some ch → payload.length = h.length.toNat →
    exec (.segmentArrivalComplete payload crc) s =
      .next (parsersGoOn (setRx (.waiting false) (setChannel ch { s.link.channel ch with
        queue := (s.link.channel ch).queue ++ [{ header := h, payload, crc }] } s))) ∧
    ((s.link.channel ch).queue = [] → (s.link.channel ch).parser.stopped = false →
      crc ≠ crc16 (headerBytes h ++ payload) →
      ∃ t, exec (.segmentArrivalComplete payload crc) s = .next t ∧
        (t.link.channel ch).queue = [] ∧
        (t.link.channel ch).credits = (s.link.channel ch).credits + unitsOf h ∧ Flagged .segBad t ∧
        ∀ k : ObjectId, h.kind = 3 → h.tag.toNat = k.val → (s.objects.slot k).isAssembling = true →
          t.objects.slot k = .broken false ∧ Flagged .objBroken t)

/-- HEADER_CUT_SHORT, ARRIVAL_CUT_SHORT, STRAY_BYTES and DROPPED_SEGMENT_END: SEG_BAD for an incomplete header or arrival
outside the window and once for a run of stray bytes (in the discard window and before the first segment too: the model's
choice, log 12), and what is framed next. A header that is cut short may begin after a segment, in place of one being dropped,
or cut an arrival short, which raises SEG_BAD for the arrival as well. -/
def Obligations.FramingFaults : Prop :=
  ∀ s : State, Ready s →
    (∀ n, 1 ≤ n → n ≤ 7 → (∃ b, s.link.rx = .waiting b) ∨ s.link.rx = .dropping → exec (.headerCutShort n) s =
      .next (parsersGoOn (if s.link.window then setRx (.header true) s else raise .segBad (setRx (.header false) s)))) ∧
    (∀ n, 1 ≤ n → n ≤ 7 → s.link.rx = .header false →
      exec (.headerCutShort n) s = .next (parsersGoOn (raise .segBad (setRx (.header s.link.window) s)))) ∧
    (∀ n, 1 ≤ n → n ≤ 7 → s.link.rx = .header true →
      exec (.headerCutShort n) s = .next (parsersGoOn (setRx (.header s.link.window) s))) ∧
    (∀ n h, 1 ≤ n → n ≤ 7 → s.link.rx = .arriving h → s.link.window = false →
      exec (.headerCutShort n) s = .next (parsersGoOn (raise .segBad (raise .segBad (setRx (.header false) s))))) ∧
    (∀ h, s.link.rx = .arriving h →
      exec .arrivalCutShort s = .next (parsersGoOn (raise .segBad (setRx (.header s.link.window) s)))) ∧
    (∀ n, 1 ≤ n → s.link.rx = .waiting false → s.resetCtl.phase ≠ .asserted →
      exec (.strayBytes n) s = .next (parsersGoOn (raise .segBad (setRx (.waiting true) s)))) ∧
    (∀ n, s.link.rx = .waiting true ∨ s.resetCtl.phase = .asserted → exec (.strayBytes n) s = .next (parsersGoOn s)) ∧
    (s.link.rx = .dropping → exec .droppedSegmentEnd s = .next (parsersGoOn (setRx (.waiting false) s)))

/-- The holds of R12 and R14: which checked head segments are held, with which reason, and no others. That an object held for
both reasons of R12 keeps the pinned one is the model's choice (log 26). A panel segment is held while the queued jobs and
the buttons that the Update Backlog will put before it fill the Draw Queue (R14, R82; log 14). A segment whose parser is
STOPPED and one that is held are not taken by any command (R10). -/
def Obligations.HoldConditions : Prop :=
  (∀ (ch : Channel) (c : Instr) (s : State), Ready s →
    (ch = .graphics ∧ c ∈ [Instr.sceneOpen, .palette, .objectFirstFragment, .objectLaterFragment, .buttons, .layout,
      .cancel]) ∨
    (ch = .management ∧ c ∈ [Instr.key, .planeReqLive, .planeReqFreeze, .planeReqOff, .planeReqStandby, .restart, .query,
      .clearEvents, .capture, .showSource, .pan, .panelFill, .panelBitmap, .reset, .setRefused, .eventEnable, .globalEnable,
      .severity, .tapACode, .tapBCode, .tapEnable, .activateHold, .lateLimit, .lead, .sceneProtect, .panelProtect,
      .internalWidth, .internalHeight, .internalRate, .sceneOriginX, .sceneOriginY, .borderColour, .panelColour,
      .panelColour0, .unknownSetting]) →
    (s.link.channel ch).parser.stopped = true ∨ (s.link.channel ch).queue = [] ∨
      (∃ g gs k, (s.link.channel ch).queue = g :: gs ∧ g.checked = some k ∧ holdReason s k g ≠ none) →
    exec c s = .next (parsersGoOn s)) ∧
  ∀ (s : State) (g : Segment),
    (∀ k : ObjectId, g.header.tag.toNat = k.val →
      (holdReason s .object g = none ↔
        ¬ (hasFirst g.header = true ∧ k ∈ s.objects.pins) ∧
        ¬ (hasLast g.header = true ∧ 8 ≤ s.objects.decodeQueue.length ∧
          ((s.objects.takeFragment k g).1.slot k).isQueued = true ∧
          (hasFirst g.header = true ∨ (s.objects.slot k).isAssembling = true))) ∧
      (holdReason s .object g = some .pinned ↔ hasFirst g.header = true ∧ k ∈ s.objects.pins) ∧
      holdReason s .object g ∈ [none, some .pinned, some .decodeQueueFull]) ∧
    holdReason s .layout g ∈ [none, some .layoutQueueFull] ∧ holdReason s .query g ∈ [none, some .statusPending] ∧
    holdReason s .panelFill g ∈ [none, some .drawQueueFull] ∧ holdReason s .panelBitmap g ∈ [none, some .drawQueueFull] ∧
    (holdReason s .layout g = none ↔ s.sched.queue.length < 4) ∧
    (holdReason s .query g = none ↔ s.sender.status = none) ∧
    (holdReason s .panelFill g = none ↔ s.draw.queue.length + (waitingIds s).length < 16) ∧
    (holdReason s .panelBitmap g = none ↔ s.draw.queue.length + (waitingIds s).length < 16) ∧
    ∀ k ∈ [SegmentKind.sceneOpen, .palette, .buttons, .cancel, .key, .planeReq, .set, .clearEvents, .capture,
      .showSource, .pan, .reset], holdReason s k g = none

/-! ## Graphics segments -/

/-- SCENE_OPEN: a bad Mode is refused; CONTINUE with the same clamped size renames the scene; FRESH, and CONTINUE with
another size, flush the scene and set a new record. What the flush does to the Draw Engine is stated in RestartFlushes; an
engine or decode that it stops can end a drain (R162, `endDrain` in StandbyAndWake). -/
def Obligations.SceneOpened : Prop :=
  ∀ (g : Segment) (s : State), Takes .graphics .sceneOpen g s →
    let number : Word16 := BitVec.ofNat 16 (u16 g.payload 0)
    let mode := u8 g.payload 2
    let w := max 16 (min 1920 (u16 g.payload 4))
    let h := max 16 (min 1080 (u16 g.payload 6))
    let s1 := dropHead .graphics s
    (1 < mode → exec .sceneOpen s = .next (parsersGoOn (raise .segBad s1))) ∧
    (mode = 1 → w = s.sched.scene.w → h = s.sched.scene.h →
      exec .sceneOpen s = .next (parsersGoOn (s1.setSched { s.sched with
        scene := { s.sched.scene with number } }))) ∧
    (mode = 0 ∨ (mode = 1 ∧ ¬ (w = s.sched.scene.w ∧ h = s.sched.scene.h)) →
      ∃ u, exec .sceneOpen s = .next (parsersGoOn (endDrain u)) ∧
        OnlyChanges [.link, .sched, .objects, .palettes, .nav, .draw] s u ∧ u.link = s1.link ∧
        u.sched = { resetSched with
          scene :=
            { number, w, h
              ox := match s.settings.originX with
                | none => (s.raster.width - w) / 2
                | some x => x
              oy := match s.settings.originY with
                | none => (s.raster.height - h) / 2
                | some y => y } } ∧
        u.objects = resetObjects ∧ u.palettes = resetPalettes ∧ u.draw = s.draw.flush ∧ u.nav.tables = resetNav.tables ∧
        u.nav.liveTable = none ∧ u.nav.selection = none ∧ u.nav.states = [] ∧ u.nav.hold = none ∧ u.nav.anim = 0 ∧
        u.nav.keys = s.nav.keys.map (fun k => { k with marked := true }) ∧
        (∀ a, s.nav.hold = some a → u.nav.result = some
          { code := a.code, outcome := .activated, button := some a.button, layout := 0, command := a.command }) ∧
        (s.nav.hold = none → u.nav.result = s.nav.result))

/-- PALETTE: a bad Base is refused; otherwise the staged copy is the old staged copy, a copy of the live one, or a clear
one, with the segment's entries written, and its target is set; Slots above 1023 are skipped with one SEG_BAD. Entries are
written in order, the later of two for one Slot standing. The entries are read from the payload as 12.2 lays them out, with
every field of two and of four bytes high byte first. -/
def Obligations.PaletteStaged : Prop :=
  (∀ (p : List Byte) (i : Nat), u8 p i = (p.getD i 0).toNat ∧ u16 p i = u8 p i * 256 + u8 p (i + 1) ∧
    u32 p i = u16 p i * 65536 + u16 p (i + 2)) ∧
  (∀ (p : List Byte) (n : Nat), (paletteEntries n (p.drop 4)).length = n ∧ ∀ i, i < n →
    (paletteEntries n (p.drop 4))[i]? = some (u16 p (4 + 6 * i),
      ⟨p.getD (6 + 6 * i) 0, p.getD (7 + 6 * i) 0, p.getD (8 + 6 * i) 0, p.getD (9 + 6 * i) 0⟩)) ∧
  ∀ (g : Segment) (p : PaletteId) (s : State), Takes .graphics .palette g s → g.header.tag.toNat = p.val →
    let base := u8 g.payload 0
    let pal := s.palettes.get p
    let start := if base = 1 then [] else match pal.staged with
      | some (m, _) => m
      | none => pal.live
    let entries := paletteEntries (u16 g.payload 2) (g.payload.drop 4)
    let target : StagedTarget := if g.header.flags.getLsbD 2 then .immediate else .frame g.header.target
    let s1 := dropHead .graphics s
    let s2 := setPalette p { live := pal.live, staged := some (writeEntries entries start, target) } s1
    (1 < base → exec .palette s = .next (parsersGoOn (raise .segBad s1))) ∧
    (base ≤ 1 → (∀ e ∈ entries, e.1 ≤ 1023) → exec .palette s = .next (parsersGoOn s2)) ∧
    (base ≤ 1 → (∃ e ∈ entries, 1023 < e.1) → exec .palette s = .next (parsersGoOn (raise .segBad s2))) ∧
    (∀ slot, Sparse.wf clearEntry start = true → paletteEntry (writeEntries entries start) slot =
      match (entries.filter fun e => decide (e.1 = slot) && decide (e.1 < 1024)).getLast? with
      | some e => e.2
      | none => paletteEntry start slot)

/-- OBJECT_FIRST_FRAGMENT: the slot's old content and every other assembling object are given up; an object that fails a
test of R26 leaves its slot BROKEN with OBJ_BROKEN, skipping its later fragments; one that passes and is not complete is
ASSEMBLING with its clamped size and the expected Seq; one that carries LAST and all its bytes is QUEUED. A decode of the
slot is abandoned, which can end a drain (R162). No event is raised but OBJ_BROKEN, where an object is broken, and those of
the entry into FAULT. OBJ_BROKEN selected as FATAL enters FAULT (R166), also where the drain could end: that FAULT then
comes first is the model's choice (log 25). -/
def Obligations.FirstFragment : Prop :=
  ∀ (g : Segment) (k : ObjectId) (s : State), Takes .graphics .object g s → hasFirst g.header = true →
    g.header.tag.toNat = k.val →
    let w := max 1 (min 1920 (u16 g.payload 2))
    let h := max 1 (min 1080 (u16 g.payload 4))
    let len := u32 g.payload 6
    let coded := g.payload.drop 10
    let others := (List.finRange 64).filter fun j => decide (j ≠ k) && !(s.objects.slot j).isAssembling
    let budget := (others.map fun j => (s.objects.slot j).charge).sum
    let area := (others.map fun j => (s.objects.slot j).codedBytes).sum
    let passes := 1 ≤ len ∧ budget + w * h ≤ 4194304 ∧ len ≤ 262144 ∧ len + area ≤ 1048576
    ∃ u, exec .objectFirstFragment s = .next (parsersGoOn (endDrain u)) ∧ OnlyChanges [.link, .objects, .events, .output] s u ∧
      u.link = (dropHead .graphics s).link ∧
      (¬ passes → u.objects.slot k = .broken (!hasLast g.header) ∧ Flagged .objBroken u) ∧
      (passes → coded.length ≤ len → hasLast g.header = false →
        u.objects.slot k = .assembling w h len coded (g.header.seq + 1)) ∧
      (passes → coded.length = len → hasLast g.header = true → u.objects.slot k = .queued w h len coded) ∧
      (passes → len < coded.length ∨ (coded.length < len ∧ hasLast g.header = true) →
        u.objects.slot k = .broken false ∧ Flagged .objBroken u) ∧
      u.objects.decodeQueue = (s.objects.decodeQueue.filter fun j => decide (j ≠ k)) ++
        (if passes ∧ coded.length = len ∧ hasLast g.header = true then [k] else []) ∧
      (∀ j, j ≠ k → u.objects.slot j = match s.objects.slot j with
        | .assembling .. => .broken false
        | .broken _ => .broken false
        | v => v) ∧
      (∀ j, j ≠ k → (s.objects.slot j).isAssembling = true → Flagged .objBroken u) ∧
      u.objects.decoder = (if s.objects.decoder = some k then none else s.objects.decoder) ∧
      u.objects.pins = s.objects.pins ∧
      (let faults := ((∃ j, j ≠ k ∧ (s.objects.slot j).isAssembling = true) ∨ ∃ b, u.objects.slot k = .broken b) ∧
        s.events.fatal.getLsbD 2 = true ∧ (s.output.state = .live ∨ s.output.state = .frozen ∨ s.output.state = .off ∨
          s.output.state = .draining)
       (faults → u.output = { s.output with state := .fault, target := none }) ∧ (¬ faults → u.output = s.output)) ∧
      (let broke := (∃ j, j ≠ k ∧ (s.objects.slot j).isAssembling = true) ∨ ∃ b, u.objects.slot k = .broken b
       (¬ broke → u.events = s.events) ∧
       (broke → u.output = s.output → u.events = s.events.raise .objBroken) ∧
       (broke → u.output ≠ s.output →
        u.events = ((s.events.raise .objBroken).raise .fault).raise .stateChange))

/-- OBJECT_LATER_FRAGMENT: with the expected Seq and room its bytes are appended, and LAST completes or breaks the object;
otherwise the object breaks; a fragment for a slot with a skip mark is dropped without event, LAST ending the skip; for
any other slot SEG_BAD is raised. -/
def Obligations.LaterFragment : Prop :=
  ∀ (g : Segment) (k : ObjectId) (s : State), Takes .graphics .object g s → hasFirst g.header = false →
    g.header.tag.toNat = k.val →
    let s1 := dropHead .graphics s
    let put (v : Slot) : State := s1.setObjects (s.objects.setSlot k v)
    (∀ w h len coded seq, s.objects.slot k = .assembling w h len coded seq →
      (g.header.seq ≠ seq ∨ len < coded.length + g.payload.length →
        exec .objectLaterFragment s = .next (parsersGoOn (raise .objBroken (put (.broken false))))) ∧
      (g.header.seq = seq → coded.length + g.payload.length ≤ len → hasLast g.header = false →
        exec .objectLaterFragment s =
          .next (parsersGoOn (put (.assembling w h len (coded ++ g.payload) (seq + 1))))) ∧
      (g.header.seq = seq → coded.length + g.payload.length < len → hasLast g.header = true →
        exec .objectLaterFragment s = .next (parsersGoOn (raise .objBroken (put (.broken false))))) ∧
      (g.header.seq = seq → coded.length + g.payload.length = len → hasLast g.header = true →
        exec .objectLaterFragment s = .next (parsersGoOn (s1.setObjects
          { s.objects.setSlot k (.queued w h len (coded ++ g.payload)) with
            decodeQueue := s.objects.decodeQueue ++ [k] })))) ∧
    (s.objects.slot k = .broken true → exec .objectLaterFragment s =
      .next (parsersGoOn (if hasLast g.header then put (.broken false) else s1.setObjects s.objects))) ∧
    ((s.objects.slot k).isAssembling = false → s.objects.slot k ≠ .broken true →
      exec .objectLaterFragment s = .next (parsersGoOn (raise .segBad s1)))

/-- CANCEL: the ASSEMBLING object becomes EMPTY, which frees its charge and its coded bytes, skip marks clear, no other
slot changes, and no event is raised. -/
def Obligations.CancelDropsAssembling : Prop :=
  ∀ (g : Segment) (s : State), Takes .graphics .cancel g s →
    ∃ u, exec .cancel s = .next (parsersGoOn u) ∧ OnlyChanges [.link, .objects] s u ∧
      u.link = (dropHead .graphics s).link ∧
      (∀ k : ObjectId, u.objects.slot k = match s.objects.slot k with
        | .assembling .. => .empty
        | .broken _ => .broken false
        | v => v) ∧
      u.objects.decodeQueue = s.objects.decodeQueue ∧ u.objects.decoder = s.objects.decoder ∧
      u.objects.pins = s.objects.pins ∧
      u.objects.budgetUsed + (((List.finRange 64).filter fun k => (s.objects.slot k).isAssembling).map
        fun k => (s.objects.slot k).charge).sum = s.objects.budgetUsed ∧
      u.objects.codedUsed + (((List.finRange 64).filter fun k => (s.objects.slot k).isAssembling).map
        fun k => (s.objects.slot k).codedBytes).sum = s.objects.codedUsed

/-- BUTTONS: refused with SEG_BAD for a Count above 48, an Id above 47 or two equal Ids; otherwise its table becomes the
staged copy of the live table id, or the live copy of any other id, whose staged copy is dropped. The table holds the records
in ascending Id order with the corrections of R101. The records are read from the payload as 12.2 lays them out. -/
def Obligations.ButtonsPlaced : Prop :=
  (∀ (p : List Byte) (n : Nat) (raws : List RawButton), rawButtons n (p.drop 4) = some raws → raws.length = n ∧
    ∀ i r, raws[i]? = some r →
      let a := buttonAt p i
      let anim := if r.flags.getLsbD 0 then a + 24 else a + 20
      r.id = u8 p a ∧ r.flags = p.getD (a + 1) 0 ∧ r.x = u16 p (a + 2) ∧ r.y = u16 p (a + 4) ∧ r.w = u16 p (a + 6) ∧
      r.h = u16 p (a + 8) ∧ r.up = u8 p (a + 10) ∧ r.down = u8 p (a + 11) ∧ r.left = u8 p (a + 12) ∧
      r.right = u8 p (a + 13) ∧ r.number = u8 p (a + 14) ∧ r.command.toNat = u32 p (a + 16) ∧
      r.looks = (if r.flags.getLsbD 0 then [u8 p (a + 20), u8 p (a + 21), u8 p (a + 22), u8 p (a + 23)] else []) ∧
      (r.flags.getLsbD 4 = true → r.animFirst = u8 p anim ∧ r.animCount = u8 p (anim + 1))) ∧
  ∀ (g : Segment) (t : TableId) (raws : List RawButton) (s : State), Takes .graphics .buttons g s →
    g.header.tag.toNat = t.val → rawButtons (u8 g.payload 2) (g.payload.drop 4) = some raws →
    let s1 := dropHead .graphics s
    let ids := raws.map RawButton.id
    (48 < u8 g.payload 2 ∨ ¬ ids.Nodup ∨ (∃ i ∈ ids, 47 < i) →
      exec .buttons s = .next (parsersGoOn (raise .segBad s1))) ∧
    (u8 g.payload 2 ≤ 48 → ids.Nodup → (∀ i ∈ ids, i ≤ 47) →
      ∃ tbl : Table,
        exec .buttons s = .next (parsersGoOn (s1.setNav { s.nav with
          tables := s.nav.tables.set t (if s.nav.liveTable = some t
            then { live := (s.nav.tables.get t).live, staged := some tbl } else { live := tbl, staged := none }) })) ∧
        (tbl.buttons.map fun b => b.id.val).Perm ids ∧ (tbl.buttons.map fun b => b.id.val).Pairwise (· < ·) ∧
        (∀ b, tbl.default = some b ↔ b.val = u8 g.payload 1 ∧ b.val ∈ ids) ∧
        ∀ r ∈ raws, ∀ b ∈ tbl.buttons, b.id.val = r.id →
          let sw := s.sched.scene.w
          let sh := s.sched.scene.h
          let x := min r.x sw
          let y := min r.y sh
          let neighbour (k : Option ButtonId) (v : Nat) : Prop := ∀ i, k = some i ↔ i.val = v ∧ v ∈ ids
          let look (o : Option ObjectId) (n : Nat) : Prop := ∀ i, o = some i ↔ r.looks[n]? = some i.val
          b.lookObject = r.flags.getLsbD 0 ∧ b.autoActivate = r.flags.getLsbD 1 ∧ b.muted = r.flags.getLsbD 2 ∧
          b.numberActivates = r.flags.getLsbD 3 ∧
          b.hasAnim = (r.flags.getLsbD 4 && decide (r.animFirst ≤ 63)) ∧
          b.rect = { x, y, w := min r.w (sw - x), h := min r.h (sh - y) } ∧
          neighbour b.up r.up ∧ neighbour b.down r.down ∧ neighbour b.left r.left ∧ neighbour b.right r.right ∧
          b.number = (if 99 < r.number then 0 else r.number) ∧ b.command = r.command ∧
          look b.normalObj 0 ∧ look b.selectedObj 1 ∧ look b.activatedObj 2 ∧ look b.mutedObj 3 ∧
          (r.animFirst ≤ 63 → b.animFirst.val = r.animFirst ∧
            b.animCount = min (max 1 (min 16 r.animCount)) (64 - r.animFirst)))

/-- LAYOUT: refused when a field is out of its codes; otherwise its record joins the Layout Queue with its placements as sent,
those of objects above 63 dropped with one SEG_BAD for them; an ERASE keeps neither placements nor table. That the SEG_BAD is
raised for an ERASE too, and that the placements of an UPDATE are kept, is the model's reading (log 21). The placements are
read from the payload as 12.2 lays them out. -/
def Obligations.LayoutQueued : Prop :=
  (∀ (p : List Byte) (n : Nat) (raws : List RawPlacement), rawPlacements n (p.drop 8) = some raws → raws.length = n ∧
    ∀ i r, raws[i]? = some r →
      let a := placementAt p i
      r.object = u8 p a ∧ r.keyed = (p.getD (a + 1) 0).getLsbD 0 ∧ r.x = u16 p (a + 2) ∧ r.y = u16 p (a + 4) ∧
      r.crop = if (p.getD (a + 1) 0).getLsbD 1 then
        some { x := u16 p (a + 6), y := u16 p (a + 8), w := u16 p (a + 10), h := u16 p (a + 12) } else none) ∧
  ∀ (g : Segment) (raws : List RawPlacement) (s : State), Takes .graphics .layout g s →
    rawPlacements (u8 g.payload 7) (g.payload.drop 8) = some raws →
    let s1 := dropHead .graphics s
    let bad := 2 < u8 g.payload 2 ∨ 7 < u8 g.payload 3 ∨ (u8 g.payload 4 ≠ 0xFF ∧ 3 < u8 g.payload 4) ∨
      2 < u8 g.payload 6 ∨ 32 < u8 g.payload 7
    (bad → exec .layout s = .next (parsersGoOn (raise .segBad s1))) ∧
    (¬ bad → ∃ r : LayoutRecord,
      exec .layout s = .next (parsersGoOn
        (if ∀ p ∈ raws, p.object ≤ 63 then s1.setSched { s.sched with queue := s.sched.queue ++ [r] }
         else raise .segBad (s1.setSched { s.sched with queue := s.sched.queue ++ [r] }))) ∧
      r.number.toNat = u16 g.payload 0 ∧ r.palette.val = u8 g.payload 3 ∧ r.initial.toNat = u8 g.payload 5 ∧
      r.target = (if g.header.flags.getLsbD 2 then s.raster.fc + 1 else g.header.target) ∧
      (u8 g.payload 2 = 2 → r.kind = .erase ∧ r.table = none ∧ r.placements = []) ∧
      (u8 g.payload 2 < 2 → r.kind = (if u8 g.payload 2 = 0 then .full else .update) ∧
        (∀ t, r.table = some t ↔ t.val = u8 g.payload 4) ∧
        r.placements.map (fun p => (p.object.val, p.keyed, p.crop, p.x, p.y)) =
          (raws.filter fun p => decide (p.object ≤ 63)).map fun p => (p.object, p.keyed, p.crop, p.x, p.y)) ∧
      (r.fade = if u8 g.payload 6 = 0 then .none else if u8 g.payload 6 = 1 then .fadeIn else .fadeOut))

/-! ## Keys -/

/-- KEY: accepted at the end of the Key Queue while it holds fewer than 8, otherwise dropped with KEY_DROP. -/
def Obligations.KeyAccepted : Prop :=
  ∀ (g : Segment) (s : State), Takes .management .key g s →
    let s1 := dropHead .management s
    (8 ≤ s.nav.keys.length → exec .key s = .next (parsersGoOn (raise .keyDrop s1))) ∧
    (s.nav.keys.length < 8 → ∃ k : Key,
      exec .key s = .next (parsersGoOn (s1.setNav { s.nav with keys := s.nav.keys ++ [k] })) ∧
      k.code.code = g.header.tag ∧ k.marked = false ∧ (k.code = .number → k.n = g.payload.getD 0 0))

/-- SERVE_DIRECTIONAL_KEY. R109 serves an unmarked key by its code while no hold runs, the result slot is empty, the Draw
Queue has room for two jobs and the part is in LIVE, OFF or DRAINING; any other unmarked key waits. Served, it is UNUSED
without a live table or a Selection and STAYED when the walk finds no button; otherwise the Selection changes: the button left
takes its base state, the one found becomes SELECTED, a PATCH is asked for each that has LOOK_OBJECT, the jobs queued stay,
and without AUTO_ACTIVATE the result is MOVED; with it the button's activation starts. The walk takes at most 48 hops; it ends
at NONE and at its start, goes on past a MUTED button, and finds the first other button. -/
def Obligations.DirectionalServed : Prop :=
  (∀ s : State, servesKeys s = true ↔ s.nav.hold = none ∧ s.nav.result = none ∧ s.draw.queue.length + 2 ≤ 16 ∧
    (s.output.state = .live ∨ s.output.state = .off ∨ s.output.state = .draining)) ∧
  (∀ (k : Key) (ks : List Key) (s : State), Ready s → s.nav.keys = k :: ks → k.marked = false →
    (servesKeys s = false → ∀ c ∈ [Instr.serveDirectionalKey, .serveOkKey, .serveNumberKey],
      exec c s = .next (parsersGoOn s)) ∧
    (s.output.state ≠ .fault → exec .serveUnusedKey s = .next (parsersGoOn s))) ∧
  (∀ (k : Key) (ks : List Key) (s : State), Ready s → servesKeys s = true → s.nav.keys = k :: ks →
    k.marked = false → k.code.directional = true →
    let s1 := s.setNav { s.nav with keys := ks }
    let result (o : KeyOutcome) (b : Option ButtonId) : KeyResult :=
      { code := k.code, outcome := o, button := b, layout := s.sched.front.number, command := 0 }
    (s.nav.liveTable = none ∨ s.nav.selection = none →
      exec .serveDirectionalKey s = .next (parsersGoOn (s1.setNav { s1.nav with
        result := some (result .unused s.nav.selection) }))) ∧
    (∀ a, s.nav.liveTable.isSome = true → s.nav.selection = some a →
      (walk s.nav.table k.code a 48 a = none →
        exec .serveDirectionalKey s = .next (parsersGoOn (s1.setNav { s1.nav with
          result := some (result .stayed (some a)) }))) ∧
      (∀ b btn old, walk s.nav.table k.code a 48 a = some b → s.nav.table.button b = some btn →
        s.nav.table.button a = some old →
        let activates := btn.autoActivate = true
        ∃ u, exec .serveDirectionalKey s = .next (parsersGoOn u) ∧ OnlyChanges [.nav, .draw] s u ∧
          u.draw = { s.draw with queue := s.draw.queue ++ newPatch s a ++ newPatch s b } ∧
          u.nav.selection = some b ∧ u.nav.anim = 0 ∧ u.nav.keys = ks ∧ u.nav.tables = s.nav.tables ∧
          u.nav.liveTable = s.nav.liveTable ∧
          u.nav.states = s.nav.states.map (fun p =>
            if p.1 = b then (b, if activates ∧ s.settings.activateHold ≠ 0 then .activated else .selected)
            else if p.1 = a then (a, if old.muted then .muted else .normal) else p) ∧
          (¬ activates → u.nav.result = some (result .moved (some b)) ∧ u.nav.hold = none) ∧
          (activates → s.settings.activateHold ≠ 0 → u.nav.result = none ∧
            u.nav.hold = some { button := b, counter := s.settings.activateHold, code := k.code
                                command := btn.command }) ∧
          (activates → s.settings.activateHold = 0 → u.nav.hold = none ∧
            u.nav.result = some { code := k.code, outcome := .activated, button := some b
                                  layout := s.sched.front.number, command := btn.command })))) ∧
  ∀ (t : Table) (c : KeyCode) (a cur : ButtonId) (n : Nat),
    walk t c a 0 cur = none ∧
    (∀ b, walk t c a n cur = some b → b ≠ a ∧ t.selectable b = true) ∧
    (∀ btn, t.button cur = some btn → (btn.neighbour c = none ∨ btn.neighbour c = some a) → walk t c a n cur = none) ∧
    (∀ btn b, t.button cur = some btn → btn.neighbour c = some b → b ≠ a → t.selectable b = true →
      walk t c a (n + 1) cur = some b) ∧
    (∀ btn b m, t.button cur = some btn → btn.neighbour c = some b → b ≠ a → t.button b = some m → m.muted = true →
      walk t c a (n + 1) cur = walk t c a n b) ∧
    (∀ btn : Button, btn.neighbour .up = btn.up ∧ btn.neighbour .down = btn.down ∧ btn.neighbour .left = btn.left ∧
      btn.neighbour .right = btn.right)

/-- SERVE_OK_KEY and SERVE_NUMBER_KEY where R109 lets the head key be served: UNUSED without a live table, for OK without a
Selection, and for a NUMBER that no selectable button carries. OK starts the activation of the Selection's button; a NUMBER
makes the lowest-Id button that carries it the Selection, MOVED, or STAYED where it is so already, and with NUMBER_ACTIVATES
or AUTO_ACTIVATE its activation starts instead. The button left takes its base state, and every other keeps its own. With
ACTIVATE_HOLD 0 an activation ends at once. -/
def Obligations.OkAndNumberServed : Prop :=
  ∀ (k : Key) (ks : List Key) (s : State), Ready s → servesKeys s = true → s.nav.keys = k :: ks →
    k.marked = false →
    let s1 := s.setNav { s.nav with keys := ks }
    let unusedKey : KeyResult :=
      { code := k.code, outcome := .unused, button := s.nav.selection, layout := s.sched.front.number, command := 0 }
    let unused : State := s1.setNav { s1.nav with result := some unusedKey }
    let activated (btn : Button) : KeyResult :=
      { code := k.code, outcome := .activated, button := some btn.id, layout := s.sched.front.number
        command := btn.command }
    let hold (btn : Button) : ActivationHold :=
      { button := btn.id, counter := s.settings.activateHold, code := k.code, command := btn.command }
    (k.code = .ok →
      (s.nav.liveTable = none ∨ s.nav.selection = none → exec .serveOkKey s = .next (parsersGoOn unused)) ∧
      (∀ a btn, s.nav.liveTable.isSome = true → s.nav.selection = some a → s.nav.table.button a = some btn →
        exec .serveOkKey s = .next (parsersGoOn
          ((s1.setDraw { s.draw with queue := s.draw.queue ++ newPatch s a }).setNav
            (if s.settings.activateHold = 0 then
              { (s1.nav.setState btn.id .selected) with hold := none, anim := 0, result := some (activated btn) }
             else { (s1.nav.setState btn.id .activated) with hold := some (hold btn) }))))) ∧
    (k.code = .number →
      (s.nav.liveTable = none ∨
          (∀ b ∈ s.nav.table.buttons, ¬ (k.n ≠ 0 ∧ b.number = k.n.toNat ∧ b.muted = false)) →
        exec .serveNumberKey s = .next (parsersGoOn unused)) ∧
      (∀ btn, s.nav.liveTable.isSome = true →
        (s.nav.table.buttons.find? fun b => decide (k.n ≠ 0) && b.number == k.n.toNat && !b.muted) = some btn →
        s.nav.table.button btn.id = some btn →
        let moves := s.nav.selection ≠ some btn.id
        let activates := btn.numberActivates = true ∨ btn.autoActivate = true
        ∃ u, exec .serveNumberKey s = .next (parsersGoOn u) ∧ OnlyChanges [.nav, .draw] s u ∧
          u.draw = { s.draw with queue := s.draw.queue ++
            (match s.nav.selection with
             | some a => if a ≠ btn.id then newPatch s a else []
             | none => []) ++
            (if moves ∨ activates then newPatch s btn.id else []) } ∧
          u.nav.selection = some btn.id ∧ u.nav.keys = ks ∧ u.nav.tables = s.nav.tables ∧
          u.nav.liveTable = s.nav.liveTable ∧
          u.nav.states = s.nav.states.map (fun p =>
            if p.1 = btn.id then
              (p.1, if activates ∧ s.settings.activateHold ≠ 0 then .activated
                else if moves ∨ activates then .selected else p.2)
            else match s.nav.selection.bind s.nav.table.button with
              | some old => if p.1 = old.id then (p.1, if old.muted then .muted else .normal) else p
              | none => p) ∧
          u.nav.anim = (if moves ∨ (activates ∧ s.settings.activateHold = 0) then 0 else s.nav.anim) ∧
          (¬ activates → u.nav.hold = none ∧ u.nav.result = some
            { code := .number, button := some btn.id, layout := s.sched.front.number, command := 0
              outcome := if moves then .moved else .stayed }) ∧
          (activates → s.settings.activateHold ≠ 0 → u.nav.result = none ∧ u.nav.hold = some (hold btn)) ∧
          (activates → s.settings.activateHold = 0 → u.nav.hold = none ∧ u.nav.result = some (activated btn))))

/-- SERVE_UNUSED_KEY: a marked head key outside STANDBY and WAKING, or an unmarked one in FAULT while no hold runs, is
answered UNUSED when the result slot is empty, and nothing else changes. -/
def Obligations.UnusedServed : Prop :=
  ∀ (k : Key) (ks : List Key) (s : State), Ready s → s.nav.keys = k :: ks → s.nav.result = none →
    (k.marked = true ∧ s.output.state ≠ .standby ∧ s.output.state ≠ .waking) ∨
      (k.marked = false ∧ s.output.state = .fault ∧ s.nav.hold = none) →
    exec .serveUnusedKey s = .next (parsersGoOn (s.setNav { s.nav with
      keys := ks
      result := some { code := k.code, outcome := .unused, button := s.nav.selection,
                       layout := s.sched.front.number, command := 0 } }))

/-! ## Plane requests, status, events -/

/-- PLANE_REQ_LIVE, PLANE_REQ_FREEZE, PLANE_REQ_OFF and PLANE_REQ_STANDBY in LIVE, FROZEN and OFF (R160): the request is
judged against the pending target, or the output state when there is none, and the output state does not change. -/
def Obligations.PlaneRequests : Prop :=
  ∀ (c : Instr) (tag : Byte) (want : Target) (g : Segment) (s : State),
    (c, tag, want) ∈ [(Instr.planeReqLive, (0 : Byte), Target.live), (.planeReqFreeze, 1, .frozen),
      (.planeReqOff, 2, .off), (.planeReqStandby, 3, .standby)] →
    Takes .management .planeReq g s → g.header.tag = tag →
    s.output.state = .live ∨ s.output.state = .frozen ∨ s.output.state = .off →
    let headed := match s.output.target with
      | some t => t.state
      | none => s.output.state
    exec c s = .next (parsersGoOn ((dropHead .management s).setOutput
      (if want.state = headed then { s.output with lastRequest := .ignored }
       else if want.state = s.output.state then { s.output with target := none, lastRequest := .accepted }
       else { s.output with target := some want, lastRequest := .accepted })))

/-- The plane requests in DRAINING (R163), where LIVE, FREEZE and OFF end the drain at once, and in FAULT (R167), where
all four are IGNORED. -/
def Obligations.RequestsInDrainAndFault : Prop :=
  ∀ (c : Instr) (tag : Byte) (want : Target) (g : Segment) (s : State),
    (c, tag, want) ∈ [(Instr.planeReqLive, (0 : Byte), Target.live), (.planeReqFreeze, 1, .frozen),
      (.planeReqOff, 2, .off), (.planeReqStandby, 3, .standby)] →
    Takes .management .planeReq g s → g.header.tag = tag →
    let s1 := dropHead .management s
    (s.output.state = .fault ∨ (s.output.state = .draining ∧ want = .standby) →
      exec c s = .next (parsersGoOn (s1.setOutput { s.output with lastRequest := .ignored }))) ∧
    (s.output.state = .draining → want ≠ .standby →
      exec c s = .next (parsersGoOn ((raiseFlag .stateChange s1).setOutput
        { s.output with state := want.state, lastRequest := .accepted })))

/-- RESTART: the scene stores are emptied, a pending target and a drain end, the part is in OFF with STATE_CHANGE if it was
not, and the request is ACCEPTED; settings, stills, panel colours, raster and divider are kept. What a flush does to the Draw
Engine (R92, R98): the pixels stay, the scene jobs leave, the panel jobs lose their mark, a SCENE_CLEAR is placed first or
joined to the head panel job, a scene job or RESYNC is abandoned, and a panel job in flight goes on. -/
def Obligations.RestartFlushes : Prop :=
  (∀ d : Draw,
    let kept := d.queue.filterMap fun j => match j with
      | .panel p => some (Job.panel { p with clearFirst := false })
      | .rebuild .. | .patch _ | .sceneClear => none
    d.flush.planeX = d.planeX ∧ d.flush.planeY = d.planeY ∧ d.flush.frontIsX = d.frontIsX ∧
    (kept.length < 16 → d.flush.queue = .sceneClear :: kept) ∧
    (∀ p rest, 16 ≤ kept.length → kept = .panel p :: rest →
      d.flush.queue = .panel { p with clearFirst := true } :: rest) ∧
    (∀ j m b, d.engine = .drawing (.scene j m b) → d.flush.engine = .idle) ∧
    (∀ m, d.engine = .drawing (.sceneClear m) → d.flush.engine = .idle) ∧
    (∀ p, d.engine = .drawing (.panel p) → d.flush.engine =
      .drawing (.panel { p with job := { p.job with clearFirst := false }, clear := none })) ∧
    (∀ j p, d.engine = .awaitFlip j p → d.flush.engine = match p with
      | none => .idle
      | some q => .drawing (.panel q)) ∧
    (∀ c p, d.engine = .resyncing c p → d.flush.engine = match p with
      | none => .idle
      | some q => .drawing (.panel q)) ∧
    (d.engine = .idle → d.flush.engine = .idle)) ∧
  ∀ (g : Segment) (s : State), Takes .management .planeReq g s → g.header.tag = 4 →
    ∃ u, exec .restart s = .next (parsersGoOn u) ∧
      OnlyChanges [.link, .output, .events, .sched, .objects, .palettes, .nav, .draw] s u ∧
      u.link = (dropHead .management s).link ∧ u.output = { state := .off, target := none, lastRequest := .accepted } ∧
      u.events = (if s.output.state = .off then s.events else s.events.raise .stateChange) ∧
      u.sched = { resetSched with scene := s.sched.scene } ∧ u.objects = resetObjects ∧ u.palettes = resetPalettes ∧
      u.draw = s.draw.flush ∧ u.nav.tables = resetNav.tables ∧ u.nav.liveTable = none ∧ u.nav.selection = none ∧
      u.nav.states = [] ∧ u.nav.hold = none ∧ u.nav.anim = 0 ∧
      u.nav.keys = s.nav.keys.map (fun k => { k with marked := true }) ∧
      (∀ h, s.nav.hold = some h → u.nav.result = some
        { code := h.code, outcome := .activated, button := some h.button, layout := 0, command := h.command }) ∧
      (s.nav.hold = none → u.nav.result = s.nav.result)

/-- QUERY: a STATUS becomes pending with the fields of the blocks as they stand; nothing else changes. The 48 bytes of the
record carry the fields at the offsets and in the codes of R181. -/
def Obligations.QueryFillsStatus : Prop :=
  ∀ (g : Segment) (s : State), Takes .management .query g s →
    ∃ r : StatusRecord,
      exec .query s = .next (parsersGoOn ((dropHead .management s).setSender { s.sender with status := some r })) ∧
      r.state = s.output.state ∧ r.resetCause = s.resetCtl.cause ∧ r.frameCounter = s.raster.fc ∧
      r.timingMode = s.raster.mode ∧ r.rasterWidth = s.raster.width ∧ r.rasterHeight = s.raster.height ∧
      r.scene = s.sched.scene ∧ r.frontLayout = s.sched.front.number ∧
      r.layoutQueueDepth = s.sched.queue.length ∧ r.fadeLevel = s.sched.fade ∧
      r.pixelBudgetUsed = s.objects.budgetUsed ∧ r.codedAreaUsed = s.objects.codedUsed ∧
      r.liveTable = s.nav.liveTable ∧ r.selection = s.nav.selection ∧ r.still0 = s.still.buffers.get 0 ∧
      r.still1 = s.still.buffers.get 1 ∧ r.shownSource = s.still.shown ∧ r.lastStillResult = s.still.last ∧
      r.lastRequestResult = s.output.lastRequest ∧ r.globalEnable = s.events.globalEnable ∧
      r.flags = s.events.flags ∧ r.enables = s.events.enables ∧ r.severity = s.events.fatal ∧
      r.tapACode = s.divider.tapA.code ∧ r.tapBCode = s.divider.tapB.code ∧
      r.tapAEnabled = s.divider.tapA.enabled ∧ r.tapBEnabled = s.divider.tapB.enabled ∧
      r.bytes.length = 48 ∧
      (let table := match r.liveTable with
        | some k => k.val
        | none => 255
       let button := match r.selection with
        | some k => k.val
        | none => 255
       let still (b : StillBuffer) : Nat := match b with
        | .empty => 0
        | .waiting | .copying .. => 1
        | .valid .. => 2
        | .invalid => 3
       u8 r.bytes 0 = (match r.state with
        | .off => 0
        | .live => 1
        | .frozen => 2
        | .draining => 3
        | .standby => 4
        | .waking => 5
        | .fault => 6) ∧
       u8 r.bytes 1 = (if r.resetCause = .powerOn then 0 else 1) ∧ u16 r.bytes 2 = r.frameCounter.toNat ∧
       u8 r.bytes 4 = (if r.timingMode = .internal then 0 else 1) ∧ u8 r.bytes 5 = 0 ∧
       u16 r.bytes 6 = r.rasterWidth % 65536 ∧ u16 r.bytes 8 = r.rasterHeight % 65536 ∧
       u16 r.bytes 10 = r.scene.number.toNat ∧ u16 r.bytes 12 = r.scene.w % 65536 ∧ u16 r.bytes 14 = r.scene.h % 65536 ∧
       u16 r.bytes 16 = r.scene.ox % 65536 ∧ u16 r.bytes 18 = r.scene.oy % 65536 ∧
       u16 r.bytes 20 = r.frontLayout.toNat ∧ u8 r.bytes 22 = r.layoutQueueDepth % 256 ∧
       u8 r.bytes 23 = r.fadeLevel % 256 ∧ u32 r.bytes 24 = r.pixelBudgetUsed % 2 ^ 32 ∧
       u32 r.bytes 28 = r.codedAreaUsed % 2 ^ 32 ∧ u8 r.bytes 32 = table ∧ u8 r.bytes 33 = button ∧
       u8 r.bytes 34 = still r.still0 ∧ u8 r.bytes 35 = still r.still1 ∧
       u8 r.bytes 36 = (match r.shownSource with
        | .video => 0
        | .still b => b.val + 1) ∧
       u8 r.bytes 37 = (match r.lastStillResult with
        | .none => 0
        | .accepted => 1
        | .halted => 2
        | .shown => 3
        | .busy => 4
        | .noVideo => 5
        | .notValid => 6
        | .noStill => 7
        | .lost => 8) ∧
       u8 r.bytes 38 = (match r.lastRequestResult with
        | .none => 0
        | .accepted => 1
        | .ignored => 2) ∧
       u8 r.bytes 39 = (if r.globalEnable then 1 else 0) ∧ u16 r.bytes 40 = r.flags.toNat ∧
       u16 r.bytes 42 = r.enables.toNat ∧ u8 r.bytes 44 = r.severity.toNat ∧ u8 r.bytes 45 = r.tapACode.toNat ∧
       u8 r.bytes 46 = r.tapBCode.toNat ∧
       u8 r.bytes 47 = (if r.tapAEnabled then 1 else 0) + (if r.tapBEnabled then 2 else 0))

/-- The Event Unit. Raising an event sets its flag, and adds it to the notices when the flag was clear and the event is
enabled (R172); raised as FATAL in LIVE, FROZEN, OFF or DRAINING it enters FAULT with no pending target and raises FAULT and
STATE_CHANGE (R166); nothing else changes. The attention line is high while an enabled flag is set and the global enable is 1
(R173). CLEAR_EVENTS: the flags named are cleared; the others, the enables and the pending notices stay (R174). -/
def Obligations.ClearEventsClears : Prop :=
  (∀ (e : Event) (s : State), let t := raise e s
    let fatal := (e = .segBad ∧ s.events.fatal.getLsbD 0 = true) ∨ (e = .overrun ∧ s.events.fatal.getLsbD 1 = true) ∨
      (e = .objBroken ∧ s.events.fatal.getLsbD 2 = true)
    let faults := fatal ∧ (s.output.state = .live ∨ s.output.state = .frozen ∨ s.output.state = .off ∨
      s.output.state = .draining)
    (∀ e' : Event, Flagged e' t ↔ Flagged e' s ∨ e' = e ∨ (faults ∧ (e' = .fault ∨ e' = .stateChange))) ∧
    t.events.notices = s.events.notices ||| (t.events.flags &&& ~~~s.events.flags &&& s.events.enables) ∧
    t.events.enables = s.events.enables ∧ t.events.globalEnable = s.events.globalEnable ∧
    t.events.fatal = s.events.fatal ∧
    (faults → t.output = { s.output with state := .fault, target := none }) ∧ (¬ faults → t.output = s.output) ∧
    OnlyChanges [.events, .output] s t) ∧
  (∀ ev : Events, ev.attention = true ↔ ev.globalEnable = true ∧
    ∃ e : Event, ev.flags.getLsbD e.num = true ∧ ev.enables.getLsbD e.num = true) ∧
  ∀ (g : Segment) (s : State), Takes .management .clearEvents g s →
    ∃ flags : Word16,
      exec .clearEvents s = .next (parsersGoOn ((dropHead .management s).setEvents { s.events with flags })) ∧
      ∀ e : Event, flags.getLsbD e.num = true ↔
        Flagged e s ∧ (BitVec.ofNat 16 (u16 g.payload 0)).getLsbD e.num = false

/-- REPORT_PICK takes the first pending kind in the order READY, STATUS, CREDIT of the two channels, KEY_RESULT, NOTICE,
with the Frame Counter as Target and the next Seq, while none is in transmission. REPORT_TRANSMITTED frees the Report
Link, and the READY's end closes the discard window (its operand is the model's, log 17). -/
def Obligations.ReportsPickedAndSent : Prop :=
  (∀ s : State, Ready s → s.sender.transmitting = none →
    let send (s1 : State) (kind : ReportKind) (tag : Byte) (payload : List Byte) : Host.Outcome State Fault Refusal :=
      .next (parsersGoOn (s1.setSender { s1.sender with
        transmitting := some { kind, tag, target := s.raster.fc, seq := s.sender.nextSeq, payload }
        nextSeq := s.sender.nextSeq + 1 }))
    let noReady := s.sender.ready = false
    let noStatus := noReady ∧ s.sender.status = none
    let noCreditG := noStatus ∧ s.link.graphics.credits = 0
    let noCredit := noCreditG ∧ s.link.management.credits = 0
    let noResult := noCredit ∧ s.nav.result = none
    (s.sender.ready = true → exec .reportPick s =
      send (s.setSender { s.sender with ready := false }) .ready 0 [s.resetCtl.cause.code]) ∧
    (∀ r, noReady → s.sender.status = some r → exec .reportPick s =
      send (s.setSender { s.sender with status := none }) .status 0 r.bytes) ∧
    (noStatus → 0 < s.link.graphics.credits → exec .reportPick s =
      send (s.setLink { s.link with graphics := { s.link.graphics with credits := 0 } }) .credit 0
        [BitVec.ofNat 8 s.link.graphics.credits]) ∧
    (noCreditG → 0 < s.link.management.credits → exec .reportPick s =
      send (s.setLink { s.link with management := { s.link.management with credits := 0 } }) .credit 1
        [BitVec.ofNat 8 s.link.management.credits]) ∧
    (∀ r, noCredit → s.nav.result = some r → exec .reportPick s =
      send (s.setNav { s.nav with result := none }) .keyResult 0 r.bytes) ∧
    (noResult → s.events.notices ≠ 0 → exec .reportPick s =
      send (s.setEvents { s.events with notices := 0 }) .notice 0 (bytes16 s.events.notices.toNat)) ∧
    (noResult → s.events.notices = 0 → exec .reportPick s = .next (parsersGoOn s))) ∧
  (∀ s : State, Ready s → s.sender.transmitting.isSome = true → exec .reportPick s = .next (parsersGoOn s)) ∧
  (∀ (b : Bool) (r : Report) (s : State), Ready s → s.sender.transmitting = some r →
    let s1 := s.setSender { s.sender with transmitting := none }
    (r.kind ≠ .ready → exec (.reportTransmitted b) s = .next (parsersGoOn s1)) ∧
    (r.kind = .ready → exec (.reportTransmitted b) s = .next (parsersGoOn (s1.setLink { s.link with
      window := false
      rx := match b, s.link.rx with
        | true, .waiting _ => .header true
        | true, .dropping => .header true
        | _, rx => rx }))))

/-! ## Stills and panel -/

/-- CAPTURE: the tests of R126 in their order; an accepted one puts the buffer into its waiting phase. -/
def Obligations.CaptureTested : Prop :=
  ∀ (g : Segment) (b : Fin 2) (s : State), Takes .management .capture g s → g.header.tag.toNat = b.val →
    let s1 := dropHead .management s
    let refuse (r : StillResult) : Host.Outcome State Fault Refusal :=
      .next (parsersGoOn (raise .stillFail (s1.setStill { s.still with last := r })))
    let halted := s.output.state = .draining ∨ s.output.state = .fault
    let shown := s.still.shown = .still b ∨
      ∃ t, s.still.transition = some t ∧ (t.old = .still b ∨ t.new = .still b)
    let busy := (s.still.buffers.get 0).capturing = true ∨ (s.still.buffers.get 1).capturing = true
    (halted → exec .capture s = refuse .halted) ∧
    (¬ halted → shown → exec .capture s = refuse .shown) ∧
    (¬ halted → ¬ shown → busy → exec .capture s = refuse .busy) ∧
    (¬ halted → ¬ shown → ¬ busy → s.raster.mode = .internal → exec .capture s = refuse .noVideo) ∧
    (¬ halted → ¬ shown → ¬ busy → s.raster.mode = .locked → exec .capture s =
      .next (parsersGoOn (s1.setStill { s.still with last := .accepted, buffers := s.still.buffers.set b .waiting })))

/-- SHOW: an unlisted Kind is refused with SEG_BAD, a still that is not VALID with NOT_VALID; otherwise a transition under
way completes and a record with k = 0 is made, which in DRAINING completes at once. -/
def Obligations.ShowStartsTransition : Prop :=
  ∀ (g : Segment) (s : State), Takes .management .showSource g s →
    let n : Source := if g.header.tag = 0 then .video else if g.header.tag = 1 then .still 0 else .still 1
    let s1 := dropHead .management s
    (3 < u8 g.payload 0 → exec .showSource s = .next (parsersGoOn (raise .segBad s1))) ∧
    (u8 g.payload 0 ≤ 3 → s.still.showable n = false → exec .showSource s =
      .next (parsersGoOn (raise .stillFail (s1.setStill { s.still with last := .notValid })))) ∧
    (u8 g.payload 0 ≤ 3 → s.still.showable n = true →
      ∃ u, exec .showSource s = .next (parsersGoOn u) ∧ OnlyChanges [.link, .still, .events] s u ∧ u.link = s1.link ∧
        u.still.last = .accepted ∧ u.still.buffers = s.still.buffers ∧
        (s.output.state ≠ .draining → ∃ r, u.still.transition = some r ∧ r.new = n ∧ r.k = 0 ∧
          r.d = (if u8 g.payload 0 = 0 then 1 else max 1 (u8 g.payload 1)) ∧
          (r.kind = match u8 g.payload 0 with
            | 0 => .cut
            | 1 => .dissolve
            | 2 => .wipeAcross
            | _ => .wipeDown) ∧
          (∀ old, s.still.transition = some old → r.old = old.new ∧ u.still.shown = old.new ∧ u.still.pan = none ∧
            u.still.view = { wx := 0, wy := 0, z := 1 } ∧ Flagged .stillDone u) ∧
          (s.still.transition = none → r.old = s.still.shown ∧ u.still.shown = s.still.shown ∧
            u.still.view = s.still.view ∧ u.still.pan = s.still.pan ∧ u.events = s.events)) ∧
        (s.output.state = .draining → u.still.transition = none ∧ u.still.shown = n ∧ u.still.pan = none ∧
          u.still.view = { wx := 0, wy := 0, z := 1 } ∧ Flagged .stillDone u))

/-- PAN: refused NO_STILL while VIDEO is shown; otherwise a record at step 0 is made, or, in DRAINING and with Tap B
disabled outside FROZEN, the view is that of the last step and STILL_DONE is raised. -/
def Obligations.PanStarts : Prop :=
  ∀ (g : Segment) (s : State), Takes .management .pan g s →
    let s1 := dropHead .management s
    let p : PanRecord :=
      { x0 := u16 g.payload 0, y0 := u16 g.payload 2, x1 := u16 g.payload 4, y1 := u16 g.payload 6
        zs := s.still.view.z, ze := max 1 (min 8 (u8 g.payload 8)), n := max 1 (min 1024 (u16 g.payload 10)), i := 0 }
    let ends := s.output.state = .draining ∨ (s.divider.tapB.enabled = false ∧ s.output.state ≠ .frozen)
    (s.still.shown = .video → exec .pan s =
      .next (parsersGoOn (raise .stillFail (s1.setStill { s.still with last := .noStill })))) ∧
    (∀ b size, s.still.shown = .still b → size = (s.still.buffers.get b).size →
      (¬ ends → exec .pan s = .next (parsersGoOn (s1.setStill { s.still with
        last := .accepted, pan := some p, view := panView p size.1 size.2 0 }))) ∧
      (ends → exec .pan s = .next (parsersGoOn (raise .stillDone (s1.setStill { s.still with
        last := .accepted, pan := none, view := panView p size.1 size.2 p.n })))))

/-- The view of a pan (R133): the formula for each coordinate, the captured size being that of the shown still, the start
and end steps, the zoom's range, and the two examples. -/
def Obligations.PanViewFormula : Prop :=
  (∀ (st : Still) (p : PanRecord) (b : Fin 2) (i : Nat), st.shown = .still b →
    st.viewAt p i = panView p (st.buffers.get b).size.1 (st.buffers.get b).size.2 i) ∧
  panValue 0 600 3 7 = 257 ∧ panValue 600 0 3 7 = 343 ∧
  ∀ (p : PanRecord) (cw ch i : Nat), 1 ≤ p.n → i ≤ p.n → 1 ≤ cw → 1 ≤ ch →
    ((panView p cw ch i).wx : Int) =
      min ((p.x0 : Int) + Int.tdiv (((p.x1 : Int) - p.x0) * i) p.n) ((cw : Int) - 1) ∧
    ((panView p cw ch i).wy : Int) =
      min ((p.y0 : Int) + Int.tdiv (((p.y1 : Int) - p.y0) * i) p.n) ((ch : Int) - 1) ∧
    ((panView p cw ch i).z : Int) = (p.zs : Int) + Int.tdiv (((p.ze : Int) - p.zs) * i) p.n ∧
    panView p cw ch 0 = { wx := min p.x0 (cw - 1), wy := min p.y0 (ch - 1), z := p.zs } ∧
    panView p cw ch p.n = { wx := min p.x1 (cw - 1), wy := min p.y1 (ch - 1), z := p.ze } ∧
    min p.zs p.ze ≤ (panView p cw ch i).z ∧ (panView p cw ch i).z ≤ max p.zs p.ze

/-- PANEL_FILL and PANEL_BITMAP: an index above 15 is refused with SEG_BAD; otherwise the job joins the Draw Queue with
its rectangle and, for a bitmap, its H rows of ceil(W / 8) bytes. -/
def Obligations.PanelQueued : Prop :=
  ∀ (g : Segment) (s : State),
    let s1 := dropHead .management s
    let rect : Rect := { x := u16 g.payload 0, y := u16 g.payload 2, w := u16 g.payload 4, h := u16 g.payload 6 }
    let queued (bits : Option (List Byte)) : State := s1.setDraw { s.draw with queue := s.draw.queue ++
      [.panel { rect, index := BitVec.ofNat 4 (u8 g.payload 8), bits, clearFirst := false }] }
    (Takes .management .panelFill g s →
      (15 < u8 g.payload 8 → exec .panelFill s = .next (parsersGoOn (raise .segBad s1))) ∧
      (u8 g.payload 8 ≤ 15 → exec .panelFill s = .next (parsersGoOn (queued none)))) ∧
    (Takes .management .panelBitmap g s →
      (15 < u8 g.payload 8 → exec .panelBitmap s = .next (parsersGoOn (raise .segBad s1))) ∧
      (u8 g.payload 8 ≤ 15 → exec .panelBitmap s = .next (parsersGoOn
        (queued (some ((g.payload.drop 9).take (rect.h * ((rect.w + 7) / 8))))))))

/-! ## Resets -/

/-- RESET, POWER_ON, RESET_N_RELEASE and RESET_COMPLETION: every block at its power-on values, what a RESET keeps (the
report in transmission, and the frame in progress), and at the completion both plane buffers at 0, both still buffers EMPTY,
the parsers RUNNING with empty queues, and the READY with the first frame start (R170): it is an internal frame start, as
InternalFrameStarts states it, of the part with those values and nothing else changed. The model's readings in it:
State.reset is the moment of RESET_N's assertion (log 7); a RESET keeps the frame latch and POWER_ON drops it (log 9); the
segment being received when a reset begins is dropped, so that the framing is `Rx.afterReset` (log 16); `held` is log 4. -/
def Obligations.ResetsRestoreValues : Prop :=
  (∀ rx : Rx, rx.afterReset = match rx with
    | .waiting _ => .waiting false
    | .header _ => .header true
    | .arriving _ | .dropping => .dropping) ∧
  (∀ (g : Segment) (s : State), Takes .management .reset g s →
    exec .reset s = .next (parsersGoOn { State.reset with
      pending := s.pending
      link := { resetLink with rx := s.link.rx.afterReset }
      sender := { resetSender with transmitting := s.sender.transmitting }
      mixer := s.mixer
      resetCtl := { cause := .linkReset, phase := .inProgress } })) ∧
  (∀ s : State, exec .powerOn s = .next { State.reset with
      pending := s.pending
      link := { resetLink with rx := s.link.rx.afterReset } }) ∧
  (∀ s : State, Ready s → s.resetCtl.phase = .asserted → exec .resetNRelease s =
    .next (parsersGoOn (s.setResetCtl { s.resetCtl with phase := .inProgress }))) ∧
  (∀ (held : List FrameChange) (s : State), Ready s → s.resetCtl.phase = .inProgress →
    ∃ t, exec (.resetCompletion held) s = .next t ∧ t.resetCtl = { s.resetCtl with phase := .complete } ∧
      t.sender = { s.sender with ready := true } ∧ t.raster.fc = s.raster.fc + 1 ∧
      t.divider.count = (if s.divider.running then s.divider.count + 1 else s.divider.count) ∧
      (∀ x y, s.draw.engine = .idle → t.draw.front.pixel x y = 0 ∧ t.draw.back.pixel x y = 0 ∧
        t.draw.frontIsX = true) ∧
      (∀ b : Fin 2, t.still.buffers.get b = .empty) ∧
      (ResetOk s → ∀ ch : Channel, (t.link.channel ch).queue = [] ∧ (t.link.channel ch).credits = 0 ∧
        (t.link.channel ch).parser.stopped = false) ∧
      (ResetOk s → exec (.resetCompletion held) s = exec (.internalFrameStart held) { s with
        resetCtl := { s.resetCtl with phase := .complete }
        draw := { s.draw with planeX := [], planeY := [], frontIsX := true }
        still := resetStill
        sender := { s.sender with ready := true }
        raster := { s.raster with whole := false } }))

/-! ## Settings -/

/-- The settings without a tap: with the pair alone in its SET (a command for each pair is the model's form, log 5), each
clamps its Value and writes its own field, and nothing else changes but what the parsers then do. -/
def Obligations.SettingsWritten : Prop :=
  ∀ (g : Segment) (p : SetPair) (s : State), Takes .management .set g s → u8 g.payload 0 = 1 → pairsOf g = [p] →
    let s1 := dropHead .management s
    let v := p.value
    let sets (c : Instr) (id : Byte) (t : State) : Prop := p.id = id → exec c s = .next (parsersGoOn t)
    let byte (i : Nat) : Byte := BitVec.ofNat 8 (v.toNat / 2 ^ (24 - 8 * i))
    sets .eventEnable 0x01 (s1.setEvents { s.events with enables := BitVec.ofNat 16 v.toNat }) ∧
    sets .globalEnable 0x02 (s1.setEvents { s.events with globalEnable := decide (v ≠ 0) }) ∧
    sets .severity 0x03 (s1.setEvents { s.events with fatal := BitVec.ofNat 3 v.toNat }) ∧
    sets .activateHold 0x07 (s1.setSettings { s.settings with activateHold := min 255 v.toNat }) ∧
    sets .lateLimit 0x08 (s1.setSettings { s.settings with lateLimit := min 255 v.toNat }) ∧
    sets .lead 0x09 (s1.setSettings { s.settings with lead := min 15 v.toNat }) ∧
    sets .sceneProtect 0x0A (s1.setSettings { s.settings with sceneProtect := BitVec.ofNat 12 v.toNat }) ∧
    sets .panelProtect 0x0B (s1.setSettings { s.settings with panelProtect := BitVec.ofNat 12 v.toNat }) ∧
    sets .internalWidth 0x0C (s1.setSettings { s.settings with internalWidth := max 16 (min 1920 v.toNat) }) ∧
    sets .internalHeight 0x0D (s1.setSettings { s.settings with internalHeight := max 16 (min 1080 v.toNat) }) ∧
    sets .internalRate 0x0E (s1.setSettings { s.settings with
      internalRate := if v.toNat ≤ 55 then .fps50 else .fps60 }) ∧
    sets .sceneOriginX 0x0F (s1.setSettings { s.settings with
      originX := if v.toNat = 2 ^ 32 - 1 then none else some (min 1919 v.toNat) }) ∧
    sets .sceneOriginY 0x10 (s1.setSettings { s.settings with
      originY := if v.toNat = 2 ^ 32 - 1 then none else some (min 1079 v.toNat) }) ∧
    sets .borderColour 0x11 (s1.setSettings { s.settings with border := ⟨byte 0, byte 1, byte 2⟩ }) ∧
    sets .panelColour0 0x20 s1 ∧
    (∀ n : Fin 16, 1 ≤ n.val → sets .panelColour (BitVec.ofNat 8 (0x20 + n.val)) (s1.setPanel { s.panel with
      written := s.panel.written.set n ⟨byte 0, byte 1, byte 2, byte 3⟩ }))

/-- TAP_A_CODE and TAP_B_CODE (R155): above 7 reads as 7; an enabled tap buffers a new code and drops the buffered one for
its own; a disabled tap takes the code at once. TAP_ENABLE (R156): the enables; the buffered code of a tap that is disabled
becomes its active code; the count's stop and restart; and what the consumers of a disabled tap do: a fade and a pan end
unless the part is in FROZEN, and an animation index other than 0 returns to 0 and a PATCH is asked for the Selection's
button. A command for each pair is the model's form (log 5). -/
def Obligations.TapsWritten : Prop :=
  ∀ (g : Segment) (p : SetPair) (s : State), Takes .management .set g s → u8 g.payload 0 = 1 → pairsOf g = [p] →
    let s1 := dropHead .management s
    let code : BitVec 3 := BitVec.ofNat 3 (min 7 p.value.toNat)
    let written (t : Tap) : Tap :=
      if t.enabled = true ∧ s.divider.running = true then
        if code = t.code then { t with buffered := none } else { t with buffered := some code }
      else { t with code := code, buffered := none }
    (p.id = 0x04 → exec .tapACode s = .next (parsersGoOn (s1.setDivider { s.divider with
      tapA := written s.divider.tapA }))) ∧
    (p.id = 0x05 → exec .tapBCode s = .next (parsersGoOn (s1.setDivider { s.divider with
      tapB := written s.divider.tapB }))) ∧
    (p.id = 0x06 →
    let a := p.value.getLsbD 0
    let b := p.value.getLsbD 1
    let enabled (t : Tap) (on : Bool) : Tap :=
      if t.enabled = true ∧ on = false then { code := t.buffered.getD t.code, buffered := none, enabled := false }
      else { t with enabled := on }
    let disablesA := s.divider.tapA.enabled = true ∧ a = false
    let disablesB := s.divider.tapB.enabled = true ∧ b = false
    ∃ u, exec .tapEnable s = .next (parsersGoOn u) ∧
      OnlyChanges [.link, .divider, .nav, .draw, .sched, .still, .events] s u ∧ u.link = s1.link ∧
      u.divider.tapA = enabled s.divider.tapA a ∧ u.divider.tapB = enabled s.divider.tapB b ∧
      (a = false ∧ b = false → u.divider.count = 0 ∧ u.divider.running = false) ∧
      (a = true ∨ b = true → s.divider.running = true →
        u.divider.count = s.divider.count ∧ u.divider.running = true) ∧
      (s.divider.running = false → s.divider.tapA.enabled = false → s.divider.tapB.enabled = false →
        a = true ∨ b = true → u.divider.count = 0 ∧ u.divider.running = true) ∧
      (disablesA → s.nav.anim ≠ 0 → u.nav = { s.nav with anim := 0 } ∧
        u.draw = { s.draw with queue := s.draw.queue ++ (askedPatch s s.nav.selection).1 } ∧
        u.sched.backlog = s.sched.backlog ++ (askedPatch s s.nav.selection).2) ∧
      (¬ disablesA ∨ s.nav.anim = 0 → u.nav = s.nav ∧ u.draw = s.draw ∧ u.sched.backlog = s.sched.backlog) ∧
      u.sched = { s.sched with backlog := u.sched.backlog, fade := u.sched.fade, fadeDir := u.sched.fadeDir } ∧
      (disablesB → s.output.state ≠ .frozen →
        (s.sched.fadeDir = .fadeIn → u.sched.fade = 16) ∧ (s.sched.fadeDir = .fadeOut → u.sched.fade = 0) ∧
        (s.sched.fadeDir = .none → u.sched.fade = s.sched.fade) ∧ u.sched.fadeDir = .none ∧ u.still.pan = none ∧
        (∀ r, s.still.pan = some r → u.still = { s.still with pan := none, view := s.still.viewAt r r.n } ∧
          u.events = s.events.raise .stillDone) ∧
        (s.still.pan = none → u.still = s.still ∧ u.events = s.events)) ∧
      (¬ disablesB ∨ s.output.state = .frozen → u.sched.fade = s.sched.fade ∧ u.sched.fadeDir = s.sched.fadeDir ∧
        u.still = s.still ∧ u.events = s.events))

/-- A SET is applied pair by pair in payload order, a command for each pair (the model's form of a SET, log 5):
`settingCommand` is the pair's command, and `applySetting` what its owner writes, as `SettingsWritten` and `TapsWritten` say
for each setting. A Count of 0 or above 64 refuses the SET with SEG_BAD. A pair with an unknown id writes nothing, and
SEG_BAD is raised once after the last pair if any was skipped. An event that comes before the last pair's command finds the
SET whole. The pairs are read from the payload as 12.3 lays them out. -/
def Obligations.SetPairsInOrder : Prop :=
  let unknown (p : SetPair) : Bool :=
    decide (p.id.toNat = 0 ∨ (0x12 ≤ p.id.toNat ∧ p.id.toNat ≤ 0x1F) ∨ 0x30 ≤ p.id.toNat)
  (∀ g : Segment, (pairsOf g).length = u8 g.payload 0 ∧ ∀ i, i < u8 g.payload 0 → ∃ p, (pairsOf g)[i]? = some p ∧
    p.id = g.payload.getD (1 + 5 * i) 0 ∧ p.value.toNat = u32 g.payload (2 + 5 * i)) ∧
  (∀ p : SetPair, (unknown p = true ↔ settingCommand p.id = .unknownSetting) ∧
    ∀ s : State, unknown p = true → applySetting p s = s) ∧
  (∀ (g : Segment) (s : State), Takes .management .set g s →
    let s1 := dropHead .management s
    (u8 g.payload 0 = 0 ∨ 64 < u8 g.payload 0 → exec .setRefused s = .next (parsersGoOn (raise .segBad s1))) ∧
    (∀ p, pairsOf g = [p] → exec (settingCommand p.id) s =
      .next (parsersGoOn (if unknown p then raise .segBad s1 else applySetting p s1))) ∧
    (∀ p q ps, u8 g.payload 0 ≤ 64 → pairsOf g = p :: q :: ps → exec (settingCommand p.id) s =
      .next ((applySetting p s1).setUnderway (.set (q :: ps) (unknown p))))) ∧
  (∀ (p q : SetPair) (ps : List SetPair) (skipped : Bool) (s : State), s.underway = .set (p :: q :: ps) skipped →
    exec (settingCommand p.id) s = .next ((applySetting p s).setUnderway (.set (q :: ps) (skipped || unknown p)))) ∧
  (∀ (p : SetPair) (skipped : Bool) (s : State), s.underway = .set [p] skipped →
    (s.output.state = .draining → drainDone s = false) →
    let s1 := (applySetting p s).setUnderway .nothing
    exec (settingCommand p.id) s = .next (parsersGoOn (if skipped || unknown p then raise .segBad s1 else s1))) ∧
  (∀ (ps : List SetPair) (skipped : Bool) (s : State),
    let s1 := (ps.foldl (fun t p => applySetting p t) s).setUnderway .nothing
    finishSet ps skipped s = if skipped || ps.any unknown then raise .segBad s1 else s1) ∧
  (∀ (ps : List SetPair) (skipped : Bool) (s : State), s.underway = .set ps skipped →
    ∀ c ∈ [Instr.query, .reportPick, .key, .planeReqLive, .layoutSubmission, .jobStart, .internalFrameStart []],
      exec c s = exec c (parsersGoOn (finishSet ps skipped s)))

/-! ## Frame starts -/

/-- INTERNAL_FRAME_START: FC and the running frame count rise by 1. When nothing is held back (that changes may be is the
model's form, log 4), each tap ticks at the counts R154 names and takes its buffered code; the shown panel colours are
brought up to date; a pending target is entered; unless the frame is frozen, a transition takes a step and completes at its
last, a hold's counter falls and the hold ends at 0, and a running fade steps at a tick of Tap B only, or completes while Tap
B is disabled; a pan steps at a tick of Tap B, ends at its last step, and jumps to its end while Tap B is disabled; a staged
palette that is due goes live; a Back Layout that is due and drawn flips, and no UPDATE is then applied; a PATCH flips; an
UPDATE that is due is applied; and the latch (a snapshot, log 9) holds the border colour, the output state entered and what its
other inputs are after these changes. All of it is what the commands of the changes do when they are held and then made in the
model's order (log 4), so that what is stated of each command holds of an ordinary frame start. At the entry into DRAINING a
pan is at its end and a transition complete. The frame: the Object Store, the links, the settings, the keys, the scene record
and the content of both plane buffers stay, but for what an entry into STANDBY and the parsers then do; the buffers keep their
roles, and the engine its state, where no flip is made; and what a block's changes would write stays while they are held, as
does all but the counters while the pending target is, and a change that is due and held is owed. -/
def Obligations.InternalFrameStarts : Prop :=
  ∀ (held : List FrameChange) (s : State), s.underway = .nothing → backlogDue s = false → framesRun s = true →
    s.raster.mode = .internal →
    ∃ t, exec (.internalFrameStart held) s = .next t ∧ t.raster.fc = s.raster.fc + 1 ∧
      t.raster.mode = .internal ∧ t.raster.width = s.raster.width ∧ t.raster.height = s.raster.height ∧
      t.divider.count = (if s.divider.running then s.divider.count + 1 else s.divider.count) ∧
      t.divider.running = s.divider.running ∧ t.settings = s.settings ∧ t.sender = s.sender ∧
      t.panel.written = s.panel.written ∧
      (∃ u, t = (if u.underway = .nothing then parsersGoOn u else u) ∧
        OnlyChanges [.underway, .link, .palettes, .panel, .sched, .draw, .nav, .still, .raster, .mixer, .divider, .output,
          .events] s u ∧
        (u.output.state ≠ .standby → u.output.state ≠ .waking →
          u.link = s.link ∧ u.raster = { s.raster with fc := s.raster.fc + 1 }) ∧
        ((s.output.state = .draining → drainDone s = false) → s.output.target = none ∨ .pendingTarget ∈ held →
          u.output = s.output)) ∧
      t.draw = { s.draw with frontIsX := t.draw.frontIsX, engine := t.draw.engine, queue := t.draw.queue } ∧
      s.draw.queue <+: t.draw.queue ∧ t.sched.scene = s.sched.scene ∧ t.nav.keys = s.nav.keys ∧
      t.still.last = s.still.last ∧
      (let holds (cs : List FrameChange) : Prop := ∀ c ∈ cs, c ∈ held
       (holds [.flip, .patchFlip, .update, .tapA, .holdEnd] → t.draw = s.draw) ∧
       (holds [.flip, .update, .tapA, .tapB, .holdEnd, .fadeEnd] → t.sched = s.sched) ∧
       (holds [.flip, .update, .tapA, .holdCountdown, .holdEnd] → t.nav = s.nav) ∧
       (holds [.pendingTarget, .captureCompletion, .copyingPhase, .tapB, .panEnd, .panJump, .transitionStep,
          .transitionCompletion] → t.still = s.still) ∧
       (holds [.panelColours] → t.panel = s.panel) ∧ (holds [.tapA] → t.divider.tapA = s.divider.tapA) ∧
       (holds [.tapB] → t.divider.tapB = s.divider.tapB) ∧
       (∀ k, holds [.palette k] → t.palettes.get k = s.palettes.get k) ∧
       (holds [.pendingTarget] → s.output.target.isSome = true →
         OnlyChanges [.underway, .raster, .divider] s t ∧ t.divider.tapA = s.divider.tapA ∧
         t.divider.tapB = s.divider.tapB) ∧
       (∀ cs, t.underway = .frame cs → t.mixer = s.mixer) ∧
       let dueTick (x : Tap) : Prop := s.divider.running = true ∧ x.enabled = true ∧
         (s.divider.count + 1).toNat % 2 ^ x.code.toNat = 0
       ∀ c ∈ held, (match c with
         | .flip | .patchFlip | .panelColours | .panJump => True
         | .update => FrameChange.flip ∈ held
         | .pendingTarget => s.output.target.isSome = true
         | .palette k => (s.palettes.get k).staged.isSome = true
         | .holdCountdown => s.nav.hold.isSome = true
         | .tapA => dueTick s.divider.tapA
         | .tapB => dueTick s.divider.tapB
         | .transitionStep => s.still.transition.isSome = true
         | .copyingPhase => s.still.anyWaiting = true
         | .captureCompletion => s.still.anyCopying = true
         | .returnToLocked | .holdEnd | .fadeEnd | .panEnd | .transitionCompletion | .standbyEntry => False) →
         ∃ cs, t.underway = .frame cs ∧ c ∈ cs) ∧
      (held = [] → t.underway = .nothing ∧ t.panel.shown.get 0 = s.panel.shown.get 0 ∧
        (∀ n : Fin 16, n ≠ 0 → t.panel.shown.get n = s.panel.written.get n) ∧
        let entered : OutputState := match s.output.state, s.output.target with
          | .live, some x | .frozen, some x | .off, some x => if x = .standby then .draining else x.state
          | o, _ => o
        let drains := s.output.state ≠ .draining ∧ entered = .draining
        let ticks (x : Tap) : Bool := s.divider.running && x.enabled &&
          decide ((s.divider.count + 1).toNat % 2 ^ x.code.toNat = 0)
        let ticked (x : Tap) : Tap :=
          if ticks x then { x with code := x.buffered.getD x.code, buffered := none } else x
        (∃ l, t.mixer.frame = some l ∧ l.border = s.settings.border ∧ l.mode = .internal ∧ l.output = entered ∧
          l.width = s.raster.width ∧ l.height = s.raster.height ∧ l.pageMap = t.nav.pageMap ∧
          l.front = t.draw.front ∧ l.palette = t.sched.front.palette ∧ l.fade = t.sched.fade ∧
          l.scene = s.sched.scene ∧ l.panel = t.panel.shown ∧ l.shown = t.still.shown ∧ l.view = t.still.view ∧
          l.transition = t.still.transition ∧ l.buffers = t.still.buffers) ∧
        t.divider.tapA = ticked s.divider.tapA ∧ t.divider.tapB = ticked s.divider.tapB ∧
        (drains → t.still.pan = none ∧ t.still.transition = none ∧
          (s.still.pan.isSome = true ∨ s.still.transition.isSome = true → Flagged .stillDone t) ∧
          (t.still.shown, t.still.view) = match s.still.transition, s.still.pan with
            | some r, _ => (r.new, { wx := 0, wy := 0, z := 1 })
            | none, some p => (s.still.shown, s.still.viewAt p p.n)
            | none, none => (s.still.shown, s.still.view)) ∧
        (∀ r, s.still.transition = some r → ¬ drains →
          (entered = .frozen → t.still.transition = some r ∧ t.still.shown = s.still.shown) ∧
          (entered ≠ .frozen → r.k + 1 < r.d →
            t.still.transition = some { r with k := r.k + 1 } ∧ t.still.shown = s.still.shown) ∧
          (entered ≠ .frozen → r.k + 1 = r.d → t.still.transition = none ∧ t.still.shown = r.new ∧
            t.still.view = { wx := 0, wy := 0, z := 1 } ∧ t.still.pan = none ∧ Flagged .stillDone t)) ∧
        (∀ p, s.still.pan = some p → s.still.transition = none → ¬ drains →
          (p.i < p.n → entered = .frozen ∨ (s.divider.tapB.enabled = true ∧ ticks s.divider.tapB = false) →
            t.still.pan = some p ∧ t.still.view = s.still.view) ∧
          (entered ≠ .frozen → ticks s.divider.tapB = true → p.i + 1 < p.n →
            t.still.pan = some { p with i := p.i + 1 } ∧ t.still.view = s.still.viewAt p (p.i + 1)) ∧
          (entered ≠ .frozen → ticks s.divider.tapB = true → p.i + 1 = p.n →
            t.still.pan = none ∧ t.still.view = s.still.viewAt p p.n ∧ Flagged .stillDone t) ∧
          (entered ≠ .frozen → s.divider.tapB.enabled = false →
            t.still.pan = none ∧ t.still.view = s.still.viewAt p p.n ∧ Flagged .stillDone t)) ∧
        (let since (target : Word16) : Nat := (s.raster.fc + 1 - target).toNat
         (∀ k : PaletteId, t.palettes.get k = match (s.palettes.get k).staged with
          | some (m, target) =>
            if entered ≠ .frozen ∧ (target = .immediate ∨ ∃ f, target = .frame f ∧ since f < 32768)
            then { live := m, staged := none } else s.palettes.get k
          | none => s.palettes.get k) ∧
         (∀ r, s.sched.back = some r → t.sched.queue = s.sched.queue ∧
          (∀ area p, s.draw.engine = .awaitFlip (.rebuild area) p → since r.target < 32768 →
            entered = .live ∨ entered = .off ∨ entered = .draining →
            t.sched.back = none ∧
            t.sched.front = { number := r.number, palette := r.palette, table := r.table, placements := r.placements } ∧
            t.nav.liveTable = r.table ∧ t.draw.frontIsX = !s.draw.frontIsX ∧
            t.draw.engine = .resyncing (some (area, s.settings.sceneProtect)) p) ∧
          (32768 ≤ since r.target ∨ entered = .frozen ∨ entered = .fault ∨
              (∀ area p, s.draw.engine ≠ .awaitFlip (.rebuild area) p) →
            t.sched.back = some r ∧ t.sched.front = s.sched.front ∧ t.nav.liveTable = s.nav.liveTable)) ∧
         (∀ b r p, s.draw.engine = .awaitFlip (.patch b r) p →
          (entered = .live ∨ entered = .off ∨ entered = .draining →
            t.draw.frontIsX = !s.draw.frontIsX ∧ t.draw.engine = .resyncing (some (r, s.settings.sceneProtect)) p) ∧
          (entered = .frozen ∨ entered = .fault →
            t.draw.frontIsX = s.draw.frontIsX ∧ t.draw.engine = s.draw.engine)) ∧
         (let plays := entered = .live ∨ entered = .off ∨ entered = .draining
          ¬ (plays ∧ ((∃ r area p, s.sched.back = some r ∧ s.draw.engine = .awaitFlip (.rebuild area) p ∧
              since r.target < 32768) ∨ ∃ b r p, s.draw.engine = .awaitFlip (.patch b r) p)) →
            t.draw.frontIsX = s.draw.frontIsX ∧ t.draw.engine = s.draw.engine) ∧
         (∀ r rest, s.sched.queue = r :: rest → s.sched.back = none →
          let applies := r.kind = .update ∧ since r.target < 32768 ∧
            (drawable s r = true ∨ s.settings.lateLimit ≤ since r.target) ∧ s.sched.backlog = [] ∧
            (entered = .live ∨ entered = .off)
          (applies → t.sched.queue = rest ∧ t.nav.liveTable = r.table ∧
            t.sched.front = { s.sched.front with number := r.number, palette := r.palette, table := r.table } ∧
            (drawable s r = false → Flagged .layoutForced t)) ∧
          (¬ applies → t.sched.queue = s.sched.queue ∧ t.sched.front = s.sched.front ∧
            t.nav.liveTable = s.nav.liveTable))) ∧
        (let palettes := List.finRange 8
         exec (.internalFrameStart []) s = runs
          (.internalFrameStart ([.flip, .patchFlip, .update] ++ palettes.map .palette ++ [.tapA, .tapB, .panJump, .holdEnd,
              .fadeEnd, .panEnd, .transitionCompletion]) ::
            [.flip, .patchFlip, .updateApplication] ++ palettes.map .paletteGoesLive ++ [.tapATick, .tapBTick, .panJumpToEnd,
              .holdEnd, .fadeEnd, .panEnd, .transitionCompletion]) s) ∧
        (s.sched.back = none → s.sched.queue = [] →
          (∀ h, s.nav.hold = some h →
            (entered = .frozen → t.nav.hold = some h ∧ t.nav.result = s.nav.result) ∧
            (entered ≠ .frozen → 1 < h.counter →
              t.nav.hold = some { h with counter := h.counter - 1 } ∧ t.nav.result = s.nav.result) ∧
            (entered ≠ .frozen → h.counter ≤ 1 → t.nav.hold = none ∧ t.nav.anim = 0 ∧ t.nav.result = some
              { code := h.code, outcome := .activated, button := some h.button, layout := s.sched.front.number
                command := h.command })) ∧
          (t.sched.fade, t.sched.fadeDir) =
            if entered = .frozen then (s.sched.fade, s.sched.fadeDir)
            else match s.sched.fadeDir, s.divider.tapB.enabled, ticks s.divider.tapB with
              | .none, _, _ => (s.sched.fade, .none)
              | .fadeIn, false, _ => (16, .none)
              | .fadeOut, false, _ => (0, .none)
              | dir, true, false => (s.sched.fade, dir)
              | .fadeIn, true, true =>
                (min 16 (s.sched.fade + 1), if 15 ≤ s.sched.fade then .none else .fadeIn)
              | .fadeOut, true, true => (s.sched.fade - 1, if s.sched.fade ≤ 1 then .none else .fadeOut)))

/-- VIDEO_IN_FRAME_START in LOCKED mode: with the locked size, or ending an incomplete frame, it is a frame start and
restarts the loss timer; with another size it is a loss of video, and the frame start is an internal one. Either way it makes
the changes of an internal frame start, which InternalFrameStarts states, in the divider, the panel colours, the palettes, the
scheduler, the plane, the buttons, the transition and the pan; the latch differs in the raster and the still buffers only. A
capture that was copying completes, which what is shown cannot see (StillsOk, an invariant of every step), with the pixels of
the frame that ends, line by line as received, no more than the raster holds (R127). The whole state, links, objects, output,
events and what is still owed among it, is at a loss that of the internal frame start of the part after the loss; at a frame
start of the locked size, with no capture to complete, that of the internal frame start with the mode LOCKED; and a capture
completes as its own command does it (the frame as the command's operand is log 20, what is held log 4, and the latch log 9). -/
def Obligations.LockedFrameStarts : Prop :=
  ∀ (ended : VideoFrame) (held : List FrameChange) (s : State), Ready s → framesRun s = true →
    s.raster.mode = .locked →
    ∃ t, exec (.videoInFrameStart ended held) s = .next t ∧ t.raster.fc = s.raster.fc + 1 ∧
      (s.raster.whole = false ∨ measuredSize ended = some (s.raster.width, s.raster.height) →
        t.raster.mode = .locked ∧ t.raster.width = s.raster.width ∧ t.raster.height = s.raster.height) ∧
      (s.raster.whole = true → measuredSize ended ≠ some (s.raster.width, s.raster.height) →
        t.raster.mode = .internal ∧ t.raster.width = s.settings.internalWidth ∧
        t.raster.height = s.settings.internalHeight ∧ t.raster.rate = s.settings.internalRate ∧
        t.raster.returnCount = 0 ∧ t.raster.candidate = none ∧ Flagged .videoLoss t ∧
        (s.still.captureInFlight = true → t.still.captureInFlight = false ∧ t.still.last = .lost ∧
          Flagged .stillFail t)) ∧
      (t.output.state ≠ .standby → t.output.state ≠ .waking →
        t.raster.lossTimer = some s.settings.internalRate ∧ t.raster.whole = true) ∧
      (StillsOk s.still → ∃ u, exec (.internalFrameStart held) (s.setRaster { s.raster with mode := .internal }) = .next u ∧
        t.divider = u.divider ∧ t.panel = u.panel ∧ t.palettes = u.palettes ∧ t.sched = u.sched ∧ t.draw = u.draw ∧
        t.nav = u.nav ∧ t.settings = u.settings ∧ t.sender = u.sender ∧
        t.still = { u.still with buffers := t.still.buffers, last := t.still.last } ∧
        (held = [] → ∃ l, u.mixer.frame = some l ∧ t.mixer.frame = some { l with
          mode := t.raster.mode, width := t.raster.width, height := t.raster.height, buffers := t.still.buffers })) ∧
      (held = [] → s.raster.whole = false ∨ measuredSize ended = some (s.raster.width, s.raster.height) →
        ∀ b w h rows, s.still.buffers.get b = .copying w h rows → Flagged .captureDone t ∧
          t.still.buffers.get b = .valid w h (((ended.filter fun line => !line.isEmpty).take s.raster.height).map
            fun line => line.take s.raster.width)) ∧
      (s.raster.whole = true → measuredSize ended ≠ some (s.raster.width, s.raster.height) →
        exec (.videoInFrameStart ended held) s = exec (.internalFrameStart held) ((afterLoss s).setRaster
          { (afterLoss s).raster with lossTimer := some s.settings.internalRate, whole := true })) ∧
      (s.raster.whole = false ∨ measuredSize ended = some (s.raster.width, s.raster.height) →
        let pixels := ((ended.filter fun line => !line.isEmpty).take s.raster.height).map fun line => line.take s.raster.width
        let received (b : StillBuffer) : StillBuffer := match b with
          | .copying w h _ => .copying w h pixels
          | .empty => .empty
          | .waiting => .waiting
          | .valid w h rows => .valid w h rows
          | .invalid => .invalid
        (.captureCompletion ∈ held ∨ s.still.anyCopying = false →
          ∃ u, exec (.internalFrameStart held) { s with
              still := { s.still with buffers := s.still.buffers.map received }
              raster := { s.raster with mode := .internal, lossTimer := some s.settings.internalRate, whole := true } } =
              .next u ∧
            t = { u with
              raster := { u.raster with mode := .locked }
              mixer := match u.underway with
                | .frame _ => u.mixer
                | .nothing | .set .. | .drained => { frame := u.mixer.frame.map fun l => { l with mode := .locked } } }) ∧
        (held = [] → StillsOk s.still → s.still.anyCopying = true → exec (.videoInFrameStart ended held) s =
          runs [.videoInFrameStart ended [.captureCompletion], .captureCompletion] s))

/-- VIDEO_IN_FRAME_START in INTERNAL mode counts a whole frame of a supported size towards the return and is no frame start;
with the fourth the part returns to LOCKED at the candidate size with VIDEO_BACK, in the same event or, when the return is
held back (the model's form, log 4), at RETURN_TO_LOCKED, to the same state. It is then a frame start as LockedFrameStarts
states it of the part in LOCKED mode at that size (CaptureNeedsVideo, an invariant of every step). That a first frame after
a return counts as incomplete is the model's reading (log 13). That the candidate size is cleared at the return, where R143
sets the return count alone to 0, is the model's choice (log 19). A frame received whole has a measured size when R138 calls
it supported. -/
def Obligations.ReturnIsCounted : Prop :=
  (∀ (f : VideoFrame) (w h : Nat), let lines := f.filter fun line => !line.isEmpty
    measuredSize f = some (w, h) ↔ lines.length = h ∧ (∀ line ∈ lines, line.length = w) ∧
      16 ≤ w ∧ w ≤ 1920 ∧ 16 ≤ h ∧ h ≤ 1080) ∧
  ∀ (ended : VideoFrame) (s : State), Ready s → framesRun s = true → s.raster.mode = .internal →
    s.raster.returnCount ≤ 3 →
    let timed : Raster := { s.raster with lossTimer := some s.settings.internalRate, whole := true }
    let same := s.raster.candidate = measuredSize ended ∧ 0 < s.raster.returnCount
    (s.raster.whole = false → exec (.videoInFrameStart ended []) s = .next (parsersGoOn (s.setRaster timed))) ∧
    (s.raster.whole = true → measuredSize ended = none → exec (.videoInFrameStart ended []) s =
      .next (parsersGoOn (s.setRaster { timed with returnCount := 0, candidate := none }))) ∧
    (∀ z, s.raster.whole = true → measuredSize ended = some z → ¬ same → exec (.videoInFrameStart ended []) s =
      .next (parsersGoOn (s.setRaster { timed with returnCount := 1, candidate := some z }))) ∧
    (s.raster.whole = true → (measuredSize ended).isSome = true → same → s.raster.returnCount < 3 →
      exec (.videoInFrameStart ended []) s =
        .next (parsersGoOn (s.setRaster { timed with returnCount := s.raster.returnCount + 1 }))) ∧
    (∀ w h, s.raster.whole = true → measuredSize ended = some (w, h) → same → s.raster.returnCount = 3 →
      (∃ t, exec (.videoInFrameStart ended []) s = .next t ∧ t.raster.mode = .locked ∧ t.raster.width = w ∧
        t.raster.height = h ∧ t.raster.returnCount = 0 ∧ t.raster.fc = s.raster.fc + 1 ∧ Flagged .videoBack t) ∧
      (CaptureNeedsVideo s → ∀ held, .returnToLocked ∉ held →
        ∃ t, exec (.videoInFrameStart ended held) { s with
            raster := { s.raster with
              mode := .locked, width := w, height := h, returnCount := 0, candidate := none, whole := false }
            events := s.events.raise .videoBack } = .next t ∧
          exec (.videoInFrameStart ended held) s = .next (t.setRaster { t.raster with whole := false })) ∧
      ∃ t u, exec (.videoInFrameStart ended [.returnToLocked]) s = .next t ∧ t.raster.mode = .internal ∧
        t.raster.fc = s.raster.fc ∧ exec .returnToLocked t = .next u ∧
        exec (.videoInFrameStart ended []) s = .next u ∧ u.raster.mode = .locked ∧
        u.raster.width = w ∧ u.raster.height = h ∧ u.raster.returnCount = 0 ∧ u.raster.fc = s.raster.fc + 1 ∧
        Flagged .videoBack u)

/-- LOSS_TIMER_EXPIRY: in LOCKED mode a loss of video with an internal frame start, the timer stopped: it is the internal
frame start, as InternalFrameStarts states it, of the part after the loss; in INTERNAL mode the return count and the
candidate are cleared. -/
def Obligations.LossTimerExpires : Prop :=
  ∀ (held : List FrameChange) (s : State), Ready s → framesRun s = true → s.raster.lossTimer.isSome = true →
    (s.raster.mode = .internal → exec (.lossTimerExpiry held) s = .next (parsersGoOn (s.setRaster { s.raster with
      lossTimer := none, whole := false, returnCount := 0, candidate := none }))) ∧
    (s.raster.mode = .locked → ∃ t, exec (.lossTimerExpiry held) s = .next t ∧ t.raster.mode = .internal ∧
      t.raster.width = s.settings.internalWidth ∧ t.raster.height = s.settings.internalHeight ∧
      t.raster.rate = s.settings.internalRate ∧ t.raster.returnCount = 0 ∧ t.raster.candidate = none ∧
      t.raster.lossTimer = none ∧ t.raster.fc = s.raster.fc + 1 ∧ Flagged .videoLoss t ∧
      (s.still.captureInFlight = true → t.still.captureInFlight = false ∧ t.still.last = .lost ∧
        Flagged .stillFail t) ∧
      exec (.lossTimerExpiry held) s = exec (.internalFrameStart held) ((afterLoss s).setRaster
        { (afterLoss s).raster with lossTimer := none, whole := false }))

/-- The end of a drain: in DRAINING with the engine IDLE, no capture in flight and no decode in flight, and only then, the
part enters STANDBY, both parsers STOPPED with their hold reasons, and in the same event WAKING when a segment is stored; the
candidate size is cleared with the return count (log 19). The event that fulfils the condition makes the entry (log 23);
STANDBY_ENTRY makes one that a frame start has held back. Frame starts occur when the reset is complete, outside STANDBY and
WAKING. In STANDBY and WAKING no frame start is taken, and none in a reset
(there the model's choice, log 24). WAKE_COMPLETION leads to OFF with WAKE, both parsers running and Raster Timing resumed in
its kept mode; before that the parsers take up their heads, where a discard may raise a FATAL event (log 6), and a head that
can be taken waits for its own command (log 22). -/
def Obligations.StandbyAndWake : Prop :=
  (∀ s : State, framesRun s = true ↔
    s.resetCtl.phase = .complete ∧ s.output.state ≠ .standby ∧ s.output.state ≠ .waking) ∧
  (∀ s : State,
    let done := s.output.state = .draining ∧ s.draw.engine = .idle ∧ s.still.captureInFlight = false ∧
      s.objects.decoder = none
    let t := endDrain s
    (¬ done → t = s) ∧
    (done → OnlyChanges [.link, .raster, .output, .events] s t ∧
      t.output = { s.output with state :=
        if s.link.graphics.queue = [] ∧ s.link.management.queue = [] then .standby else .waking } ∧
      (∀ ch : Channel, t.link.channel ch = { s.link.channel ch with
        parser := { (s.link.channel ch).parser with stopped := true } }) ∧
      t.link.rx = s.link.rx ∧ t.link.window = s.link.window ∧
      t.raster = { s.raster with lossTimer := none, returnCount := 0, candidate := none } ∧
      t.events = s.events.raise .stateChange)) ∧
  (∀ s : State, s.underway = .nothing ∨ s.underway = .drained → backlogDue s = false →
    s.output.state = .draining → s.draw.engine = .idle → s.still.captureInFlight = false → s.objects.decoder = none →
    exec .standbyEntry s = .next (endDrain (s.setUnderway .nothing))) ∧
  (∀ s : State, Ready s → framesRun s = true → s.raster.mode = .internal → s.output.target = some .standby →
    s.output.state = .live ∨ s.output.state = .frozen ∨ s.output.state = .off → s.draw.engine = .idle →
    s.still.captureInFlight = false → s.objects.decoder = none →
    (∃ t, exec (.internalFrameStart []) s = .next t ∧ (t.output.state = .standby ∨ t.output.state = .waking)) ∧
    ∃ t u, exec (.internalFrameStart [.standbyEntry]) s = .next t ∧ t.underway = .drained ∧
      t.output.state = .draining ∧ t.output.target = none ∧ exec .standbyEntry t = .next u ∧
      (u.output.state = .standby ∨ u.output.state = .waking)) ∧
  (∀ (ended : VideoFrame) (held : List FrameChange) (s : State), Ready s → framesRun s = false →
    ∀ c ∈ [Instr.videoInFrameStart ended held, .internalFrameStart held, .lossTimerExpiry held],
      exec c s = .next (parsersGoOn s)) ∧
  (∀ (held : List FrameChange) (s : State), Ready s → s.output.state = .waking → s.output.target = none →
    ∃ t, exec (.wakeCompletion held) s = .next t ∧ Flagged .wake t ∧ Flagged .stateChange t ∧
      (t.output.state = .off ∨ (t.output.state = .fault ∧ s.events.fatal ≠ 0)) ∧ t.output.target = none ∧
      t.output.lastRequest = s.output.lastRequest ∧
      (∀ ch : Channel, (t.link.channel ch).parser.stopped = false) ∧
      (t.raster = match s.raster.mode with
        | .internal => { s.raster with whole := false, fc := s.raster.fc + 1 }
        | .locked => { s.raster with whole := false, lossTimer := some s.settings.internalRate }) ∧
      let running (c : ChannelState) : ChannelState := { c with parser := { c.parser with stopped := false } }
      let awake : State := parsersGoOn { s with
        output := { s.output with state := .off }
        events := (s.events.raise .stateChange).raise .wake
        link := { s.link with graphics := running s.link.graphics, management := running s.link.management } }
      (s.raster.mode = .locked → exec (.wakeCompletion held) s = .next (parsersGoOn (awake.setRaster t.raster))) ∧
      (s.raster.mode = .internal → s.resetCtl.phase = .complete →
        exec (.wakeCompletion held) s =
          exec (.internalFrameStart held) (awake.setRaster { s.raster with whole := false })))

/-! ## The changes of a frame start, each by its own command -/

/-- FLIP, UPDATE_APPLICATION, PATCH_FLIP and PALETTE_GOES_LIVE in a frame start that still owes them (a command for each
change of a frame start is the model's form, log 4). A flip and an application deliver the layout's table (R103 to R106): a
staged copy goes live; the Selection is Initial, or, at a delivery that changes the table, the Default, the old Selection or
the lowest Id, whichever is first a button that is not MUTED; the states are set afresh and a hold ends with its result,
unless neither the table nor the Selection changes. An application asks for a PATCH for each LOOK_OBJECT button and no other,
in the order of the table (ascending ids: ButtonsPlaced), the first ones as jobs and those without room as the backlog. That
the animation index is 0 after a delivery that leaves no Selection is the model's choice (log 27). Where the conditions of
R63, R66, R94 and R48 do not hold, nothing changes. The command of the last change owed closes the frame start with its latch
(log 9). When a layout is drawable is stated in SubmissionAndBacklog. -/
def Obligations.SceneChanges : Prop :=
  ClosesFrame .flip .flip ∧ ClosesFrame .updateApplication .update ∧ ClosesFrame .patchFlip .patchFlip ∧
  (∀ p, ClosesFrame (.paletteGoesLive p) (.palette p)) ∧
  (∀ (tbl : Table) (b : ButtonId), tbl.selectable b = true ↔ ∃ x, tbl.button b = some x ∧ x.muted = false) ∧
  ∀ (cs : List FrameChange) (s : State),
    let faded (f : Fade) (t : State) : Prop :=
      (t.sched.fade, t.sched.fadeDir) = match f, s.divider.tapB.enabled with
        | .none, _ => (16, .none)
        | .fadeIn, true => (0, .fadeIn)
        | .fadeIn, false => (16, .none)
        | .fadeOut, true => (s.sched.fade, .fadeOut)
        | .fadeOut, false => (0, .none)
    let delivered (r : LayoutRecord) (t : State) : Prop :=
      let tbl : Table := match r.table with
        | some u => s.nav.effectiveTable u
        | none => { default := none, buttons := [] }
      let staged : Bool := match r.table with
        | some u => (s.nav.tables.get u).staged.isSome
        | none => false
      let changed := r.table ≠ s.nav.liveTable ∨ staged = true
      let sel : Option ButtonId := if r.table = none then none else
        ((idOf 48 r.initial.toNat).filter tbl.selectable).or
          (if changed then ((tbl.default.filter tbl.selectable).or (s.nav.selection.filter tbl.selectable)).or
              ((tbl.buttons.map Button.id).find? tbl.selectable)
            else s.nav.selection)
      t.nav.liveTable = r.table ∧ t.nav.table = tbl ∧ t.nav.keys = s.nav.keys ∧ t.nav.selection = sel ∧
      (∀ u, t.nav.tables.get u =
        if r.table = some u then { live := tbl, staged := none } else s.nav.tables.get u) ∧
      (changed ∨ sel ≠ s.nav.selection → t.nav.anim = 0 ∧ t.nav.hold = none ∧
        t.nav.states = tbl.buttons.map (fun b =>
          (b.id, if sel = some b.id then .selected else if b.muted then .muted else .normal)) ∧
        t.nav.result = match s.nav.hold with
          | some h => some { code := h.code, outcome := .activated, button := some h.button, layout := r.number
                             command := h.command }
          | none => s.nav.result) ∧
      (¬ changed → sel = s.nav.selection → t.nav = s.nav)
    (∀ r, Owes .flip cs s → s.sched.back = some r →
      let left := ((cs.erase .flip).erase .update).erase .fadeEnd
      (∀ area p, left ≠ [] → s.draw.engine = .awaitFlip (.rebuild area) p → (s.raster.fc - r.target).toNat < 32768 →
        s.output.state = .live ∨ s.output.state = .off ∨ s.output.state = .draining →
        ∃ t, exec .flip s = .next t ∧ OnlyChanges [.underway, .draw, .sched, .nav, .events] s t ∧
          t.underway = .frame left ∧
          t.draw = { s.draw with
            frontIsX := !s.draw.frontIsX, engine := .resyncing (some (area, s.settings.sceneProtect)) p
            queue := s.draw.queue ++ (askedPatch (s.setNav t.nav) t.nav.selection).1 } ∧
          t.sched = { s.sched with
            back := none, fade := t.sched.fade, fadeDir := t.sched.fadeDir
            front := { number := r.number, palette := r.palette, table := r.table, placements := r.placements }
            backlog := s.sched.backlog ++ (askedPatch (s.setNav t.nav) t.nav.selection).2 } ∧
          delivered r t ∧ faded r.fade t ∧
          t.events = if s.raster.fc = r.target then s.events else s.events.raise .layoutLate) ∧
      (32768 ≤ (s.raster.fc - r.target).toNat ∨ s.output.state = .frozen ∨ s.output.state = .fault ∨
          (∀ area p, s.draw.engine ≠ .awaitFlip (.rebuild area) p) →
        exec .flip s = .next (made .flip cs s))) ∧
    (Owes .flip cs s → s.sched.back = none → exec .flip s = .next (made .flip cs s)) ∧
    (Owes .update cs s → s.sched.queue = [] → exec .updateApplication s = .next (made .update cs s)) ∧
    (Owes .patchFlip cs s → (∀ b r p, s.draw.engine ≠ .awaitFlip (.patch b r) p) →
      exec .patchFlip s = .next (made .patchFlip cs s)) ∧
    (∀ p, Owes (.palette p) cs s → (s.palettes.get p).staged = none →
      exec (.paletteGoesLive p) s = .next (made (.palette p) cs s)) ∧
    (∀ r rest, Owes .update cs s → s.sched.queue = r :: rest →
      let left := (cs.erase .update).erase .fadeEnd
      let d := (s.raster.fc - r.target).toNat
      let applies := r.kind = .update ∧ d < 32768 ∧ (drawable s r = true ∨ s.settings.lateLimit ≤ d) ∧
        s.sched.back = none ∧ s.sched.backlog = [] ∧ (s.output.state = .live ∨ s.output.state = .off)
      (applies → left ≠ [] →
        ∃ t, exec .updateApplication s = .next t ∧ OnlyChanges [.underway, .draw, .sched, .nav, .events] s t ∧
          t.underway = .frame left ∧
          t.sched = { s.sched with
            queue := rest, fade := t.sched.fade, fadeDir := t.sched.fadeDir, backlog := t.sched.backlog
            front := { s.sched.front with number := r.number, palette := r.palette, table := r.table } } ∧
          t.draw = { s.draw with queue := t.draw.queue } ∧ s.draw.queue <+: t.draw.queue ∧
          (∀ b ∈ t.nav.table.buttons, b.lookObject = true →
            Job.patch b.id ∈ t.draw.queue ∨ b.id ∈ t.sched.backlog) ∧
          ((t.nav.table.buttons.map Button.id).Nodup →
            let wanted := (t.nav.table.buttons.filter fun b => b.lookObject && !s.draw.hasPatch b.id).map Button.id
            t.draw.queue = s.draw.queue ++ (wanted.take (16 - s.draw.queue.length)).map Job.patch ∧
            t.sched.backlog = wanted.drop (16 - s.draw.queue.length)) ∧
          delivered r t ∧ faded r.fade t ∧
          (Flagged .layoutForced t ↔ Flagged .layoutForced s ∨ drawable s r = false) ∧
          (Flagged .layoutLate t ↔ Flagged .layoutLate s ∨ s.raster.fc ≠ r.target)) ∧
      (¬ applies → exec .updateApplication s = .next (made .update cs s))) ∧
    (Owes .patchFlip cs s → ∀ b r p, s.draw.engine = .awaitFlip (.patch b r) p →
      (s.output.state = .live ∨ s.output.state = .off ∨ s.output.state = .draining →
        exec .patchFlip s = .next ((made .patchFlip cs s).setDraw { s.draw with
          frontIsX := !s.draw.frontIsX, engine := .resyncing (some (r, s.settings.sceneProtect)) p })) ∧
      (s.output.state = .frozen ∨ s.output.state = .fault → exec .patchFlip s = .next (made .patchFlip cs s))) ∧
    (∀ p m target, Owes (.palette p) cs s → (s.palettes.get p).staged = some (m, target) →
      let isDue := target = .immediate ∨ ∃ f, target = .frame f ∧ (s.raster.fc - f).toNat < 32768
      (isDue → s.output.state ≠ .frozen → exec (.paletteGoesLive p) s =
        .next ((made (.palette p) cs s).setPalettes (s.palettes.set p { live := m, staged := none }))) ∧
      (¬ isDue ∨ s.output.state = .frozen → exec (.paletteGoesLive p) s = .next (made (.palette p) cs s)))

/-- PENDING_TARGET_ENTRY, HOLD_END, TAP_A_TICK, TAP_B_TICK and FADE_END in a frame start that still owes them
(log 4). A tick of Tap A advances the animation in the case R119 names and in no other. The command of the last change owed
closes the frame start with its latch (log 9); after a tick of Tap B the ends that it may bring about are owed. At the entry of
a STANDBY target a pan jumps to its end and then a transition completes. What a command does not name here it leaves. -/
def Obligations.ControlChanges : Prop :=
  ClosesFrame .pendingTargetEntry .pendingTarget ∧ ClosesFrame .holdEnd .holdEnd ∧ ClosesFrame .tapATick .tapA ∧
  ClosesFrame .fadeEnd .fadeEnd ∧
  (∀ s : State, s.underway = .frame [.tapB] →
    ∃ u, exec .tapBTick (s.setUnderway (.frame [.tapB, .panelColours])) = .next u ∧
      exec .tapBTick s = .next (u.setUnderway (.frame [.fadeEnd, .panEnd]))) ∧
  (∀ (d : Draw) (b : ButtonId), (d.hasPatch b = true ↔ Job.patch b ∈ d.queue) ∧
    (d.patchInProgress b = true ↔ (∃ r mask blits, d.engine = .drawing (.scene (.patch b r) mask blits)) ∨
      ∃ r p, d.engine = .awaitFlip (.patch b r) p)) ∧
  ∀ (cs : List FrameChange) (s : State),
    (∀ target, Owes .pendingTarget cs s → s.output.target = some target →
      s.output.state = .live ∨ s.output.state = .frozen ∨ s.output.state = .off →
      ∃ t, exec .pendingTargetEntry s = .next t ∧ OnlyChanges [.underway, .output, .still, .events] s t ∧
        t.output = { s.output with target := none, state := if target = .standby then .draining else target.state } ∧
        (target = .standby → t.still = { s.still with
          pan := none, transition := none
          shown := match s.still.transition with
            | some r => r.new
            | none => s.still.shown
          view := match s.still.transition, s.still.pan with
            | some _, _ => { wx := 0, wy := 0, z := 1 }
            | none, some p => s.still.viewAt p p.n
            | none, none => s.still.view }) ∧
        (target ≠ .standby → t.still = s.still) ∧
        (let changed := if t.output.state ≠ s.output.state then s.events.raise .stateChange else s.events
         t.events = if target = .standby ∧ (s.still.pan.isSome = true ∨ s.still.transition.isSome = true)
          then changed.raise .stillDone else changed) ∧ t.underway = .frame (cs.erase .pendingTarget)) ∧
    (Owes .pendingTarget cs s → s.output.target = none → exec .pendingTargetEntry s = .next (made .pendingTarget cs s)) ∧
    (Owes .holdEnd cs s → s.nav.hold = none → exec .holdEnd s = .next (made .holdEnd cs s)) ∧
    (Owes .holdEnd cs s → ∀ h, s.nav.hold = some h →
      (h.counter = 0 → s.output.state ≠ .frozen →
        ∃ t, exec .holdEnd s = .next t ∧ t.nav.hold = none ∧ t.nav.anim = 0 ∧ t.nav.selection = s.nav.selection ∧
          t.nav.states = s.nav.states.map (fun p => if p.1 = h.button then (h.button, .selected) else p) ∧
          t.nav.result = some { code := h.code, outcome := .activated, button := some h.button,
                                layout := s.sched.front.number, command := h.command } ∧
          t.draw = { s.draw with queue := s.draw.queue ++ (askedPatch s (some h.button)).1 } ∧
          t.sched = { s.sched with backlog := s.sched.backlog ++ (askedPatch s (some h.button)).2 } ∧
          t.nav.keys = s.nav.keys ∧ t.nav.tables = s.nav.tables ∧ t.nav.liveTable = s.nav.liveTable ∧
          OnlyChanges [.underway, .nav, .draw, .sched] s t) ∧
      (h.counter ≠ 0 ∨ s.output.state = .frozen → exec .holdEnd s = .next (made .holdEnd cs s))) ∧
    (Owes .tapA cs s → ∃ t, exec .tapATick s = .next t ∧
      t.divider.tapA = { s.divider.tapA with code := s.divider.tapA.buffered.getD s.divider.tapA.code, buffered := none } ∧
      t.divider = { s.divider with tapA := t.divider.tapA } ∧ t.underway = .frame (cs.erase .tapA) ∧
      OnlyChanges [.underway, .divider, .nav, .draw, .sched] s t ∧
      (s.output.state = .frozen → t.nav = s.nav ∧ t.draw = s.draw ∧ t.sched = s.sched) ∧
      ((¬ ∃ a btn, s.nav.selection = some a ∧ s.nav.table.button a = some btn ∧ s.nav.stateOf btn.id = .selected ∧
          btn.lookObject = true ∧ btn.hasAnim = true ∧ s.draw.hasPatch btn.id = false ∧ btn.id ∉ s.sched.backlog ∧
          s.draw.patchInProgress btn.id = false) →
        t.nav = s.nav ∧ t.draw = s.draw ∧ t.sched = s.sched) ∧
      (∀ a btn, s.output.state ≠ .frozen → s.nav.selection = some a → s.nav.table.button a = some btn →
        s.nav.stateOf btn.id = .selected → btn.lookObject = true → btn.hasAnim = true →
        s.draw.hasPatch btn.id = false → btn.id ∉ s.sched.backlog → s.draw.patchInProgress btn.id = false →
        t.nav = { s.nav with anim := (s.nav.anim + 1) % btn.animCount } ∧
        t.draw = { s.draw with queue := s.draw.queue ++ (askedPatch s (some a)).1 } ∧
        t.sched = { s.sched with backlog := s.sched.backlog ++ (askedPatch s (some a)).2 } ∧
        (Job.patch btn.id ∈ t.draw.queue ∨ btn.id ∈ t.sched.backlog))) ∧
    (Owes .tapB cs s → ∃ t, exec .tapBTick s = .next t ∧
      t.divider.tapB = { s.divider.tapB with code := s.divider.tapB.buffered.getD s.divider.tapB.code, buffered := none } ∧
      t.divider = { s.divider with tapB := t.divider.tapB } ∧
      t.underway = .frame (cs.erase .tapB ++ [FrameChange.fadeEnd, .panEnd].filter fun c => !(cs.erase .tapB).contains c) ∧
      OnlyChanges [.underway, .divider, .sched, .still] s t ∧ t.sched = { s.sched with fade := t.sched.fade } ∧
      t.still = { s.still with pan := t.still.pan, view := t.still.view } ∧
      (s.output.state = .frozen ∨ (∀ p, s.still.pan = some p → p.n ≤ p.i) → t.still = s.still) ∧
      (s.output.state = .frozen → t.sched = s.sched) ∧
      (s.output.state ≠ .frozen →
        t.sched.fade = (match s.sched.fadeDir with
          | .none => s.sched.fade
          | .fadeIn => min 16 (s.sched.fade + 1)
          | .fadeOut => s.sched.fade - 1) ∧ t.sched.fadeDir = s.sched.fadeDir ∧
        (∀ p, s.still.pan = some p → p.i < p.n →
          t.still.pan = some { p with i := p.i + 1 } ∧ t.still.view = s.still.viewAt p (p.i + 1)))) ∧
    (Owes .fadeEnd cs s → s.output.state = .frozen → exec .fadeEnd s = .next (made .fadeEnd cs s)) ∧
    (Owes .fadeEnd cs s → s.divider.tapB.enabled = true → s.output.state ≠ .frozen → exec .fadeEnd s =
      .next ((made .fadeEnd cs s).setSched { s.sched with
        fadeDir := if (s.sched.fadeDir = .fadeIn ∧ s.sched.fade = 16) ∨ (s.sched.fadeDir = .fadeOut ∧ s.sched.fade = 0)
          then .none else s.sched.fadeDir })) ∧
    (Owes .fadeEnd cs s → s.divider.tapB.enabled = false → s.output.state ≠ .frozen →
      exec .fadeEnd s = .next ((made .fadeEnd cs s).setSched { s.sched with
        fadeDir := .none
        fade := match s.sched.fadeDir with
          | .fadeIn => 16
          | .fadeOut => 0
          | .none => s.sched.fade }))

/-- PAN_END, PAN_JUMP_TO_END, COPYING_PHASE_START, CAPTURE_COMPLETION and TRANSITION_COMPLETION in a frame start that
still owes them (log 4), and where the conditions of R127, R130, R131 and R134 do not hold, nothing changes. The command of the
last change owed closes the frame start with its latch (log 9). -/
def Obligations.StillChanges : Prop :=
  ClosesFrame .panEnd .panEnd ∧ ClosesFrame .panJumpToEnd .panJump ∧ ClosesFrame .copyingPhaseStart .copyingPhase ∧
  ClosesFrame .captureCompletion .captureCompletion ∧ ClosesFrame .transitionCompletion .transitionCompletion ∧
  ∀ (cs : List FrameChange) (s : State),
    (Owes .panEnd cs s → ∀ p, s.still.pan = some p → p.n ≤ p.i → exec .panEnd s =
      .next (raise .stillDone ((made .panEnd cs s).setStill { s.still with pan := none }))) ∧
    (Owes .panJump cs s → ∀ p, s.still.pan = some p → s.divider.tapB.enabled = false → s.output.state ≠ .frozen →
      exec .panJumpToEnd s = .next (raise .stillDone ((made .panJump cs s).setStill { s.still with
        pan := none, view := s.still.viewAt p p.n }))) ∧
    (Owes .panEnd cs s → (∀ p, s.still.pan = some p → p.i < p.n) → exec .panEnd s = .next (made .panEnd cs s)) ∧
    (Owes .panJump cs s → s.divider.tapB.enabled = true ∨ s.output.state = .frozen ∨ s.still.pan = none →
      exec .panJumpToEnd s = .next (made .panJump cs s)) ∧
    (∀ b, Owes .copyingPhase cs s → s.still.buffers.get b = .waiting →
      ∃ t, exec .copyingPhaseStart s = .next t ∧
        t.still.buffers.get b = .copying s.raster.width s.raster.height [] ∧
        t = (made .copyingPhase cs s).setStill { s.still with buffers := t.still.buffers } ∧
        ∀ c, s.still.buffers.get c ≠ .waiting → t.still.buffers.get c = s.still.buffers.get c) ∧
    (Owes .copyingPhase cs s → (∀ b, s.still.buffers.get b ≠ .waiting) →
      exec .copyingPhaseStart s = .next (made .copyingPhase cs s)) ∧
    (∀ b w h rows, Owes .captureCompletion cs s → s.raster.mode = .locked →
      s.still.buffers.get b = .copying w h rows →
      ∃ t, exec .captureCompletion s = .next t ∧ t.still.buffers.get b = .valid w h rows ∧
        t = raise .captureDone ((made .captureCompletion cs s).setStill { s.still with buffers := t.still.buffers }) ∧
        ∀ c, (∀ w h rows, s.still.buffers.get c ≠ .copying w h rows) →
          t.still.buffers.get c = s.still.buffers.get c) ∧
    (Owes .captureCompletion cs s →
      s.raster.mode = .internal ∨ (∀ b w h rows, s.still.buffers.get b ≠ .copying w h rows) →
      exec .captureCompletion s = .next (made .captureCompletion cs s)) ∧
    (Owes .transitionCompletion cs s → s.output.state = .frozen ∨ (∀ r, s.still.transition = some r → r.k < r.d) →
      exec .transitionCompletion s = .next (made .transitionCompletion cs s)) ∧
    (Owes .transitionCompletion cs s → ∀ r, s.still.transition = some r → r.k = r.d → s.output.state ≠ .frozen →
      exec .transitionCompletion s = .next (raise .stillDone ((made .transitionCompletion cs s).setStill { s.still with
        pan := none, shown := r.new, view := { wx := 0, wy := 0, z := 1 }, transition := none })))

/-! ## Submission, drawing, decoding -/

/-- LAYOUT_SUBMISSION under the conditions of R59, and nothing where one of them fails; BACKLOG_MOVE, and nothing without an
id that can move. A layout is drawable when no object that R58 says it references is ASSEMBLING, QUEUED or DECODING. A scene
job counts as queued or running while it waits, is drawn or waits for its flip, and while a RESYNC runs; a panel job that
clears the scene first counts as one (R92). The place that a JOB_START frees in a full Draw Queue is the backlog's before a
held panel segment is re-tested: with a button waiting the segment stays held and the BACKLOG_MOVE takes the place, with none
waiting the segment is released and is queued (R82; that the re-test is made within JOB_START is log 14). -/
def Obligations.SubmissionAndBacklog : Prop :=
  (∀ (s : State) (r : LayoutRecord),
    let copy (t : TableId) : Table := match (s.nav.tables.get t).staged with
      | some tbl => tbl
      | none => (s.nav.tables.get t).live
    let used (b : Button) (k : ObjectId) : Prop :=
      (b.lookObject = true ∧ some k ∈ [b.normalObj, b.selectedObj, b.activatedObj, b.mutedObj]) ∨
        (b.hasAnim = true ∧ b.animFirst.val ≤ k.val ∧ k.val < b.animFirst.val + b.animCount)
    let references (k : ObjectId) : Prop := (r.kind = .full ∧ ∃ p ∈ r.placements, p.object = k) ∨
      (r.kind ≠ .erase ∧ ∃ t, r.table = some t ∧ ∃ b ∈ (copy t).buttons, used b k)
    drawable s r = true ↔ ∀ k : ObjectId, references k → match s.objects.slot k with
      | .ready .. | .damaged .. | .empty | .broken _ => True
      | .assembling .. | .queued .. | .decoding .. => False) ∧
  (∀ d : Draw, d.sceneBusy = true ↔
    (∃ j ∈ d.queue, ∀ p, j = .panel p → p.clearFirst = true) ∨ (∃ j mask blits, d.engine = .drawing (.scene j mask blits)) ∨
      (∃ mask, d.engine = .drawing (.sceneClear mask)) ∨ (∃ p, d.engine = .drawing (.panel p) ∧ p.clear.isSome = true) ∨
      (∃ j p, d.engine = .awaitFlip j p) ∨ ∃ c p, d.engine = .resyncing c p) ∧
  (∀ s : State, Ready s →
    (s.sched.queue = [] ∨ (∃ r rest, s.sched.queue = r :: rest ∧ r.kind = .update) ∨ s.sched.back ≠ none ∨
        s.draw.sceneBusy = true ∨ 16 ≤ s.draw.queue.length ∨ s.sched.backlog ≠ [] ∨
        ¬ (s.output.state = .live ∨ s.output.state = .frozen ∨ s.output.state = .off) →
      exec .layoutSubmission s = .next (parsersGoOn s)) ∧
    (s.sched.backlog = [] ∨ 16 ≤ s.draw.queue.length → exec .backlogMove s = .next (parsersGoOn s))) ∧
  (∀ (r : LayoutRecord) (rest : List LayoutRecord) (s : State), Ready s → s.sched.queue = r :: rest →
    r.kind ≠ .update → s.sched.back = none → s.draw.sceneBusy = false → s.draw.queue.length < 16 →
    s.sched.backlog = [] → s.output.state = .live ∨ s.output.state = .frozen ∨ s.output.state = .off →
    let near := (s.raster.fc - r.target).toNat < 32768 ∨ (r.target - s.raster.fc).toNat ≤ s.settings.lead
    let late := (s.raster.fc - r.target).toNat < 32768 ∧ s.settings.lateLimit ≤ (s.raster.fc - r.target).toNat
    let submitted := (s.setSched { s.sched with queue := rest, back := some r }).setDraw { s.draw with
      queue := s.draw.queue ++ [.rebuild r.placements r.table s.sched.scene.area] }
    (near → drawable s r = true → exec .layoutSubmission s = .next (parsersGoOn submitted)) ∧
    (drawable s r = false → late → exec .layoutSubmission s = .next (parsersGoOn (raise .layoutForced submitted))) ∧
    (¬ near ∨ (drawable s r = false ∧ ¬ late) → exec .layoutSubmission s = .next (parsersGoOn s))) ∧
  (∀ (b : ButtonId) (bs : List ButtonId) (s : State), s.underway = .nothing → s.sched.backlog = b :: bs →
    s.draw.queue.length < 16 → (s.output.state = .draining → drainDone s = false) →
    let s1 := s.setSched { s.sched with backlog := bs }
    (s.draw.hasPatch b = true → exec .backlogMove s = .next (parsersGoOn s1)) ∧
    (s.draw.hasPatch b = false → exec .backlogMove s =
      .next (parsersGoOn (s1.setDraw { s.draw with queue := s.draw.queue ++ [.patch b] })))) ∧
  (∀ (j : Job) (rest : List Job) (g : Segment) (gs : List Segment) (s : State), Ready s → QueuesSound s →
    s.output.state = .live ∨ s.output.state = .frozen ∨ s.output.state = .off →
    s.draw.queue = j :: rest → rest.length = 15 →
    s.draw.engine = .idle ∨ (∃ job p, s.draw.engine = .awaitFlip job none ∧ j = .panel p ∧ p.clearFirst = false) →
    (s.link.channel .management).queue = g :: gs → (s.link.channel .management).parser.stopped = false →
    g.checked = some .panelFill ∨ g.checked = some .panelBitmap →
    let held (u : State) : Option HoldReason := (u.link.channel .management).parser.hold
    (s.sched.backlog = [] → ∃ t, exec .jobStart s = .next t ∧ t.draw.queue = rest ∧ held t = none ∧
      ∀ c, (g.checked = some .panelFill ∧ c = Instr.panelFill) ∨ (g.checked = some .panelBitmap ∧ c = .panelBitmap) →
        u8 g.payload 8 ≤ 15 → ∃ u job, exec c t = .next u ∧ u.draw.queue = rest ++ [.panel job] ∧
          (u.link.channel .management).queue = gs) ∧
    (∀ b bs, s.sched.backlog = b :: bs → Job.patch b ∉ rest →
      ∃ t u, exec .jobStart s = .next t ∧ t.draw.queue = rest ∧ t.sched.backlog = b :: bs ∧ held t = some .drawQueueFull ∧
        exec .backlogMove t = .next u ∧ u.draw.queue = rest ++ [.patch b] ∧ u.sched.backlog = bs ∧
        held u = some .drawQueueFull ∧ (u.link.channel .management).queue = g :: gs))

/-- JOB_START where R84 lets the head job start, and nothing where it does not: the job leaves the queue and samples its
masks; a REBUILD and a PATCH name what they draw, pin the drawable objects and raise OBJ_MISSING once if any is omitted; a
PATCH without a button or a visible rectangle is dropped; an unmarked panel job also starts beside a held scene job.
JOB_COMPLETION writes a scene job to the Back buffer and any other to both buffers, and unpins; RESYNC_COMPLETION copies the
Front buffer into the Back buffer; in RESYNCING a panel job may complete before or after it. What a REBUILD and a PATCH draw:
the placements, then the looks of the LOOK_OBJECT buttons, those of a REBUILD in their base states; a PATCH draws what
reaches into its rectangle (for an object without a size this is free, log 11). -/
def Obligations.JobsStartAndComplete : Prop :=
  (∀ s : State, Ready s →
    let may := s.output.state = .live ∨ s.output.state = .frozen ∨ s.output.state = .off
    let started (d : Draw) (pins : List ObjectId) : State := (s.setDraw d).setObjects { s.objects with pins }
    (∀ j rest, s.draw.queue = j :: rest → s.draw.engine = .idle → may →
      let drawing (r : Running) : Draw := { s.draw with queue := rest, engine := .drawing r }
      let scene (job : Held) (items : List DrawItem) : State :=
        let t := started (drawing (.scene job s.settings.sceneProtect (drawnBlits s.objects items)))
          (pinnedBy s.objects items)
        if items.any (fun i => (s.objects.slot i.object).pixels.isNone) then raise .objMissing t else t
      let dropped : State := s.setDraw { s.draw with queue := rest }
      exec .jobStart s = .next (parsersGoOn (match j with
        | .rebuild placements table area => scene (.rebuild area) (rebuildItems s placements table area)
        | .patch b => match s.nav.table.button b with
          | none => dropped
          | some btn =>
            let r := patchRect s.sched.scene btn
            if r.w = 0 ∨ r.h = 0 then dropped else scene (.patch b r) (patchItems s r)
        | .panel p => s.setDraw (drawing (.panel
            { job := p, mask := s.settings.panelProtect
              clear := if p.clearFirst then some s.settings.sceneProtect else none }))
        | .sceneClear => s.setDraw (drawing (.sceneClear s.settings.sceneProtect))))) ∧
    (∀ job p rest, s.draw.engine = .awaitFlip job none → s.draw.queue = .panel p :: rest → p.clearFirst = false → may →
      exec .jobStart s = .next (parsersGoOn (s.setDraw { s.draw with
        queue := rest
        engine := .awaitFlip job (some { job := p, mask := s.settings.panelProtect, clear := none }) }))) ∧
    (¬ may ∨ s.draw.queue = [] ∨ (∃ r, s.draw.engine = .drawing r) ∨ (∃ c p, s.draw.engine = .resyncing c p) ∨
        (∃ job p, s.draw.engine = .awaitFlip job (some p)) ∨
        (∃ job j rest, s.draw.engine = .awaitFlip job none ∧ s.draw.queue = j :: rest ∧
          ∀ p, j = .panel p → p.clearFirst = true) →
      exec .jobStart s = .next (parsersGoOn s)) ∧
    (let completes (d : Draw) : Host.Outcome State Fault Refusal := .next (parsersGoOn (endDrain (s.setDraw d)))
     let both (f : Plane → Plane) (engine : Engine) : Draw :=
       { s.draw with planeX := f s.draw.planeX, planeY := f s.draw.planeY, engine }
     let toBack (f : Plane → Plane) (engine : Engine) : Draw :=
       if s.draw.frontIsX then { s.draw with planeY := f s.draw.planeY, engine }
       else { s.draw with planeX := f s.draw.planeX, engine }
     let front := if s.draw.frontIsX then s.draw.planeX else s.draw.planeY
     (∀ job mask blits, s.draw.engine = .drawing (.scene job mask blits) → exec .jobCompletion s =
       let r := match job with
         | .rebuild area => area
         | .patch _ rect => rect
       .next (parsersGoOn (started (toBack (sceneWrite r mask blits) (.awaitFlip job none)) []))) ∧
     (∀ p, s.draw.engine = .drawing (.panel p) → exec .jobCompletion s = completes (both p.write .idle)) ∧
     (∀ mask, s.draw.engine = .drawing (.sceneClear mask) → exec .jobCompletion s =
       completes (both (Plane.clear mask { x := 0, y := 0, w := 1920, h := 1080 }) .idle)) ∧
     (∀ job p, s.draw.engine = .awaitFlip job (some p) → exec .jobCompletion s =
       completes (both p.write (.awaitFlip job none))) ∧
     (∀ c p, s.draw.engine = .resyncing (some c) (some p) → exec .jobCompletion s =
       completes (both p.write (.resyncing (some c) none))) ∧
     (∀ p, s.draw.engine = .resyncing none (some p) → exec .jobCompletion s = completes (both p.write .idle)) ∧
     (∀ r mask p, s.draw.engine = .resyncing (some (r, mask)) p → exec .resyncCompletion s =
       completes (toBack (Plane.resync mask r front) (match p with
         | none => .idle
         | some q => .resyncing none (some q)))))) ∧
  ∀ (s : State) (placements : List Placement) (table : Option TableId) (area : Rect),
    let sc := s.sched.scene
    let placed (clip : Rect) (p : Placement) : DrawItem :=
      { object := p.object, crop := p.crop, x := sc.ox + p.x, y := sc.oy + p.y, clip, keyed := p.keyed }
    let onPlane (b : Button) : Rect := { x := b.rect.x + sc.ox, y := b.rect.y + sc.oy, w := b.rect.w, h := b.rect.h }
    let looks (clip : Rect) (anim : Nat) (st : Button → ButtonState) (bs : List Button) : List DrawItem :=
      bs.filterMap fun b => if b.lookObject then (b.look anim (st b)).map fun o =>
        { object := o, crop := none, x := sc.ox + b.rect.x, y := sc.oy + b.rect.y
          clip := Rect.clip (onPlane b) clip, keyed := true } else none
    rebuildItems s placements table area = placements.map (placed area) ++ (match table with
      | some t => looks area 0 (fun b => if b.muted then .muted else .normal) (s.nav.effectiveTable t).buttons
      | none => []) ∧
    (∀ b : Button, patchRect sc b = Rect.clip (onPlane b) sc.area) ∧
    (∀ r : Rect, patchItems s r = (s.sched.front.placements.map (placed r)).filter (DrawItem.reaches s.objects r) ++
      looks r s.nav.anim (fun b => s.nav.stateOf b.id)
        (s.nav.table.buttons.filter fun b => !(Rect.clip (onPlane b) r).isEmpty)) ∧
    (∀ (r : Rect) (i : DrawItem) (w h : Nat), (s.objects.slot i.object).size = some (w, h) →
      let src : Rect := match i.crop with
        | none => { x := 0, y := 0, w, h }
        | some c => Rect.clip c { x := 0, y := 0, w, h }
      (i.reaches s.objects r = true ↔ ∃ x y, r.has x y = true ∧
        Rect.has { x := i.x, y := i.y, w := src.w, h := src.h } x y = true)) ∧
    (∀ items : List DrawItem, pinnedBy s.objects items =
        (items.filter fun i => (s.objects.slot i.object).pixels.isSome).map DrawItem.object) ∧
    (∀ (b : Button) (n : Nat), b.look n .normal = b.normalObj ∧ b.look n .activated = b.activatedObj ∧
      b.look n .muted = b.mutedObj ∧ (b.hasAnim = false → b.look n .selected = b.selectedObj) ∧
      (b.hasAnim = true → b.animFirst.val + n < 64 →
        (b.look n .selected).map Fin.val = some (b.animFirst.val + n)))

/-- The pixels that jobs write (R80). A draw job of a source never changes a pixel bit that is 1 in the mask it sampled, and
a RESYNC makes the other bits of its rectangle those of the Front buffer. A clear sets the other bits of its rectangle to 0. A
panel job writes its index, in the panel bits, where its rectangle meets the plane and, for a bitmap, where its bit is 1. A
scene job clears its rectangle and then draws its objects in order; an object's pixel is written where it lies in the clip,
unless it is 0 in a keyed one. The pixels drawn of an object are those of its source rectangle. -/
def Obligations.MasksAreRespected : Prop :=
  (∀ (b : Plane) (x y i : Nat), Sparse.wf 0 b = true → x < 1920 →
    (∀ r mask blits, mask.getLsbD i = true →
      ((sceneWrite r mask blits b).pixel x y).getLsbD i = (b.pixel x y).getLsbD i) ∧
    (∀ p : RunningPanel, p.mask.getLsbD i = true → (∀ m, p.clear = some m → m.getLsbD i = true) →
      ((p.write b).pixel x y).getLsbD i = (b.pixel x y).getLsbD i) ∧
    (∀ r mask front, (Plane.resync mask r front b).pixel x y =
      if r.has x y = true then ((b.pixel x y &&& mask) ||| (Plane.pixel front x y &&& ~~~mask)) else b.pixel x y)) ∧
  (∀ (b : Plane) (mask : BitVec 12) (x y : Nat), Sparse.wf 0 b = true → x < 1920 →
    let old := b.pixel x y
    let written (v : BitVec 12) : BitVec 12 := (old &&& mask) ||| (v &&& ~~~mask)
    (∀ r : Rect, (b.clear mask r).pixel x y = if r.has x y = true then written 0 else old) ∧
    (∀ j : PanelJob, (b.panelWrite mask j).pixel x y =
      if j.rect.has x y = true ∧ y < 1080 ∧ (match j.bits with
        | none => true
        | some bytes => (bytes.getD ((y - j.rect.y) * ((j.rect.w + 7) / 8) + (x - j.rect.x) / 8) 0).getLsbD
            (7 - (x - j.rect.x) % 8)) = true
      then written (BitVec.ofNat 12 (j.index.toNat * 256)) else old) ∧
    (∀ i : Blit, i.clip.x + i.clip.w ≤ 1920 → (b.blit mask i).pixel x y =
      if i.clip.has x y = true ∧ i.x ≤ x ∧ i.y ≤ y then
        match (i.rows[y - i.y]?).bind fun row => row[x - i.x]? with
        | some v => if i.keyed = true ∧ v = 0 then old else written (v.setWidth 12)
        | none => old
      else old)) ∧
  (∀ (b : Plane) (p : RunningPanel), p.write b = Plane.panelWrite p.mask p.job (match p.clear with
    | some m => b.clear m { x := 0, y := 0, w := 1920, h := 1080 }
    | none => b)) ∧
  (∀ (b : Plane) (r : Rect) (mask : BitVec 12) (blits : List Blit),
    sceneWrite r mask blits b = blits.foldl (fun q i => q.blit mask i) (b.clear mask r)) ∧
  (∀ (o : ObjectStore) (items : List DrawItem), drawnBlits o items = items.filterMap fun i =>
    match (o.slot i.object).pixels with
    | some (w, h, rows) => some (i.blit w h rows)
    | none => none) ∧
  (∀ (i : DrawItem) (w h : Nat) (rows : List (List Byte)) (j k : Nat),
    let blit := i.blit w h rows
    let sx := match i.crop with
      | none => 0
      | some c => c.x
    let sy := match i.crop with
      | none => 0
      | some c => c.y
    let inside := sx + k < w ∧ sy + j < h ∧ ∀ c, i.crop = some c → k < c.w ∧ j < c.h
    blit.x = i.x ∧ blit.y = i.y ∧ blit.clip = i.clip ∧ blit.keyed = i.keyed ∧
    (inside → (blit.rows[j]?).bind (fun row => row[k]?) = (rows[sy + j]?).bind (fun row => row[sx + k]?)) ∧
    (¬ inside → (blit.rows[j]?).bind (fun row => row[k]?) = none)) ∧
  (∀ (p q : Rect) (x y : Nat), (Rect.clip p q).has x y = (p.has x y && q.has x y)) ∧
  ∀ (r : Rect) (x y : Nat), r.has x y = true ↔ r.x ≤ x ∧ x < r.x + r.w ∧ r.y ≤ y ∧ y < r.y + r.h

/-- DECODE_START takes the head of the Decode Queue when the decoder is free in LIVE, FROZEN and OFF, and changes nothing
otherwise (R34); DECODE_COMPLETION leaves the object READY,
or DAMAGED with OBJ_DAMAGED, with its rows of index pixels: exactly Height rows of exactly Width, whatever the coded
bytes. The decoder's progress is the closed rows, the pixels of the current row and the damage mark (R40). The bytes each code
takes and the pixels it places are those of R39; a pixel beyond the line or beyond the last row is discarded with the mark; a
line end closes a row, a short one filled with 0 and marked, and beyond the last row it only marks; a code whose operands are
cut off places nothing and marks; at the object end, whatever follows it, or at the end of the data, rows still open are
filled with 0 and marked (R41). The mark once set stays, nothing else sets it, and the object is READY when it is clear. The
two examples are those of 2.6. -/
def Obligations.DecodesStartAndComplete : Prop :=
  (∀ (w h : Nat),
    let run (bytes : List Byte) (d : Decoding) : List (List Byte) × Bool := decodeRun w h bytes.length bytes d
    let placed (pixels : List Byte) (d : Decoding) : Decoding := pixels.foldl (fun d v =>
      if d.rows.length < h ∧ d.line.length < w then { d with line := d.line ++ [v] } else { d with damaged := true }) d
    let filled (line : List Byte) : List Byte := line ++ List.replicate (w - line.length) 0
    let ended (d : Decoding) : List (List Byte) × Bool :=
      if d.rows.length < h then
        (d.rows ++ [filled d.line] ++ List.replicate (h - d.rows.length - 1) (List.replicate w 0), true)
      else (d.rows, d.damaged)
    let cutOff (d : Decoding) : List (List Byte) × Bool := ended { d with damaged := true }
    (∀ coded, decodeObject w h coded = run coded { rows := [], line := [], damaged := false }) ∧
    ∀ (d : Decoding) (c : Byte) (rest : List Byte),
      let n := c.toNat
      run [] d = ended d ∧
      (n ≤ 63 → n + 1 ≤ rest.length →
        run (c :: rest) d = run (rest.drop (n + 1)) (placed (rest.take (n + 1)) d)) ∧
      (n ≤ 63 → rest.length < n + 1 → run (c :: rest) d = cutOff d) ∧
      (64 ≤ n → n ≤ 127 → (∀ v more, rest = v :: more →
        run (c :: rest) d = run more (placed (List.replicate (n - 64 + 2) v) d)) ∧
        (rest = [] → run (c :: rest) d = cutOff d)) ∧
      (128 ≤ n → n ≤ 191 → (∀ m v more, rest = m :: v :: more →
        run (c :: rest) d = run more (placed (List.replicate ((n - 128) * 256 + m.toNat + 66) v) d)) ∧
        (rest.length < 2 → run (c :: rest) d = cutOff d)) ∧
      (n = 192 → run (c :: rest) d = run rest (if d.rows.length < h then
        { rows := d.rows ++ [filled d.line], line := [], damaged := d.damaged || decide (d.line.length < w) }
        else { d with damaged := true })) ∧
      (193 ≤ n → n ≤ 254 → run (c :: rest) d = run rest (placed (List.replicate (n - 192) 0) d)) ∧
      (n = 255 → run (c :: rest) d = ended d) ∧
      (d.damaged = true → (run rest d).2 = true)) ∧
  decodeObject 6 2 [66, 9, 1, 5, 6, 192, 194, 65, 7, 192, 255] = ([[9, 9, 9, 9, 5, 6], [0, 0, 7, 7, 7, 0]], true) ∧
  decodeObject 6 2 [66, 9, 1, 5, 6, 192, 194, 66, 7, 192, 255] = ([[9, 9, 9, 9, 5, 6], [0, 0, 7, 7, 7, 7]], false) ∧
  decodeObject 4 3 [3, 1, 2, 3, 4, 192, 130, 0, 8, 192, 65] = ([[1, 2, 3, 4], [8, 8, 8, 8], [0, 0, 0, 0]], true) ∧
  (∀ (w h : Nat) (coded : List Byte), (decodeObject w h coded).1.length = h ∧
    ∀ row ∈ (decodeObject w h coded).1, row.length = w) ∧
  ∀ s : State, Ready s →
    (∀ k rest w h len coded, s.objects.decoder = none → s.objects.decodeQueue = k :: rest →
      s.objects.slot k = .queued w h len coded →
      s.output.state = .live ∨ s.output.state = .frozen ∨ s.output.state = .off →
      exec .decodeStart s = .next (parsersGoOn (s.setObjects { s.objects.setSlot k (.decoding w h len coded) with
        decodeQueue := rest, decoder := some k }))) ∧
    (s.objects.decoder ≠ none ∨ s.objects.decodeQueue = [] ∨ s.output.state = .draining ∨ s.output.state = .standby ∨
        s.output.state = .waking ∨ s.output.state = .fault → exec .decodeStart s = .next (parsersGoOn s)) ∧
    (∀ k w h len coded, s.objects.decoder = some k → s.objects.slot k = .decoding w h len coded →
      let done (v : Slot) : State := s.setObjects { s.objects.setSlot k v with decoder := none }
      ((decodeObject w h coded).2 = false → exec .decodeCompletion s =
        .next (parsersGoOn (endDrain (done (.ready w h (decodeObject w h coded).1))))) ∧
      ((decodeObject w h coded).2 = true → exec .decodeCompletion s =
        .next (parsersGoOn (endDrain (raise .objDamaged (done (.damaged w h (decodeObject w h coded).1)))))))

/-! ## Scanout -/

/-- The blend of R151: its weights and formula, its limits, that each blended component lies between the two values
blended, and the layers in their fixed order. -/
def Obligations.BlendStaysBetween : Prop :=
  (∀ a, weight a = a + a / 128) ∧ weight 0 = 0 ∧ weight 127 = 127 ∧ weight 128 = 129 ∧ weight 255 = 256 ∧
  (∀ a, a ≤ 255 → weight a ≤ 256) ∧
  (∀ w top under, blend w top under = (top * w + under * (256 - w) + 128) / 256) ∧
  (∀ w top under, w ≤ 256 → min top under ≤ blend w top under ∧ blend w top under ≤ max top under) ∧
  (∀ top under, blend 0 top under = under ∧ blend 256 top under = top) ∧
  (∀ (w : Nat) (top under : Byte), w ≤ 256 → (blendByte w top under).toNat = blend w top.toNat under.toNat) ∧
  (∀ (l : Latch) (live : Sparse Entry) (video : Option Colour) (x y : Nat),
    composed l live video x y = panelLayer l x y (sceneLayer l live x y (stillLayer l (background l video) x y)))

/-- Video Out (R152): the composed result in LIVE and FROZEN, the background alone in OFF, DRAINING and FAULT; the faded
alpha never exceeds the entry's, and a menu faded out to 0 leaves the layers below unchanged (R70, R149). The layers
themselves: a source sampled with a view, the still layer by the kind of its transition, the page of a scene point, the scene
layer and the panel layer. A frame's signals: a frame-start pulse, a line-start pulse for each line, and a pixel for each
column; none in STANDBY and WAKING, and none once time has passed where no frame starts occur. The latch as a snapshot, and
the moment at which the last frame has been completed, are log 9. -/
def Obligations.VideoOutByState : Prop :=
  (∀ a f, f ≤ 16 → fadedAlpha a f ≤ a) ∧ (∀ a, fadedAlpha a 16 = a ∧ fadedAlpha a 0 = 0) ∧
  (∀ (s : State) (l : Latch) (video : Option Colour) (x y : Nat), s.mixer.frame = some l → x < l.width → y < l.height →
    (l.output = .live ∨ l.output = .frozen →
      videoOut s video x y = some (composed l (s.palettes.get l.palette).live video x y)) ∧
    (l.output = .off ∨ l.output = .draining ∨ l.output = .fault →
      videoOut s video x y = some (if l.mode = .locked then video.getD l.border else l.border)) ∧
    (l.fade = 0 → ∀ (live : Sparse Entry) (under : Colour), sceneLayer l live x y under = under)) ∧
  (∀ (l : Latch) (b : Colour) (v : View) (x y : Nat), sample l b v x y .video = b ∧
    ∀ i w h rows, l.buffers.get i = .valid w h rows → sample l b v x y (.still i) =
      if v.wx + x / v.z < w ∧ v.wy + y / v.z < h then (rows.getD (v.wy + y / v.z) []).getD (v.wx + x / v.z) l.border
      else l.border) ∧
  (∀ (l : Latch) (b : Colour) (x y : Nat),
    (l.transition = none → stillLayer l b x y = sample l b l.view x y l.shown) ∧
    ∀ t, l.transition = some t →
      let ol := sample l b l.view x y t.old
      let nl := sample l b { wx := 0, wy := 0, z := 1 } x y t.new
      let m := 256 * t.k / t.d
      let mixed (p q : Byte) : Byte := BitVec.ofNat 8 ((p.toNat * m + q.toNat * (256 - m) + 128) / 256)
      stillLayer l b x y = match t.kind with
        | .cut => if t.k = 0 then ol else nl
        | .dissolve => ⟨mixed nl.y ol.y, mixed nl.cb ol.cb, mixed nl.cr ol.cr⟩
        | .wipeAcross => if x < l.width * t.k / t.d then nl else ol
        | .wipeDown => if y < l.height * t.k / t.d then nl else ol) ∧
  (∀ (n : Nav) (x y : Nat),
    let page (b : Button) : Nat := match n.stateOf b.id with
      | .normal => 0
      | .selected => 1
      | .activated => 2
      | .muted => 3
    pageAt n.pageMap x y = match n.table.buttons.find? fun b => b.rect.has x y && page b != 0 with
      | some b => page b
      | none => 0) ∧
  (∀ (l : Latch) (live : Sparse Entry) (under : Colour) (x y : Nat),
    let v := (l.front.pixel x y).toNat
    let layered (w : Nat) (e : Entry) : Colour :=
      ⟨blendByte w e.y under.y, blendByte w e.cb under.cb, blendByte w e.cr under.cr⟩
    let inside := (l.scene.ox ≤ x ∧ x < l.scene.ox + l.scene.w ∧ x < 1920) ∧
      l.scene.oy ≤ y ∧ y < l.scene.oy + l.scene.h ∧ y < 1080
    let c := paletteEntry live (pageAt l.pageMap (x - l.scene.ox) (y - l.scene.oy) * 256 + v % 256)
    (inside → sceneLayer l live x y under = layered (weight ((c.a.toNat * l.fade + 8) / 16)) c) ∧
    (¬ inside → sceneLayer l live x y under = under) ∧
    (v / 256 = 0 → panelLayer l x y under = under) ∧
    (∀ n : Fin 16, n.val = v / 256 → n ≠ 0 →
      panelLayer l x y under = layered (weight (l.panel.get n).a.toNat) (l.panel.get n))) ∧
  (∀ (s : State) (video : Nat → Nat → Option Colour) (lines : Nat),
    (s.mixer.frame = none → frameSignals s video lines = []) ∧
    ∀ l, s.mixer.frame = some l →
      (l.output = .standby ∨ l.output = .waking → frameSignals s video lines = []) ∧
      (l.output ≠ .standby → l.output ≠ .waking → ∃ out : Nat → Nat → Colour,
        (∀ x y, x < l.width → y < l.height → videoOut s (video x y) x y = some (out x y)) ∧
        frameSignals s video lines = .frameStart :: (List.range (min lines l.height)).flatMap fun y =>
          .lineStart :: (List.range l.width).map fun x => .pixel (out x y))) ∧
  (∀ s : State, s.pending = [] → framesRun s = false → ∃ t, step s = .next t ∧ OnlyChanges [.mixer] s t ∧
    ∀ (video : Nat → Nat → Option Colour) (lines : Nat), frameSignals t video lines = [])

end
end

