-- ==== Sys2Proof/Laws/State.lean ====
section
/-!
SUPPORT. One lemma per field per setter of State, true by rfl, so that no proof unfolds a record update.
-/

namespace Sys2Proof.Machine

variable (s : State)

section
variable (v : List Instr)
@[simp] theorem State.setPending_pending : (s.setPending v).pending = v := rfl
@[simp] theorem State.setPending_underway : (s.setPending v).underway = s.underway := rfl
@[simp] theorem State.setPending_link : (s.setPending v).link = s.link := rfl
@[simp] theorem State.setPending_sender : (s.setPending v).sender = s.sender := rfl
@[simp] theorem State.setPending_objects : (s.setPending v).objects = s.objects := rfl
@[simp] theorem State.setPending_palettes : (s.setPending v).palettes = s.palettes := rfl
@[simp] theorem State.setPending_panel : (s.setPending v).panel = s.panel := rfl
@[simp] theorem State.setPending_sched : (s.setPending v).sched = s.sched := rfl
@[simp] theorem State.setPending_draw : (s.setPending v).draw = s.draw := rfl
@[simp] theorem State.setPending_nav : (s.setPending v).nav = s.nav := rfl
@[simp] theorem State.setPending_still : (s.setPending v).still = s.still := rfl
@[simp] theorem State.setPending_raster : (s.setPending v).raster = s.raster := rfl
@[simp] theorem State.setPending_mixer : (s.setPending v).mixer = s.mixer := rfl
@[simp] theorem State.setPending_divider : (s.setPending v).divider = s.divider := rfl
@[simp] theorem State.setPending_output : (s.setPending v).output = s.output := rfl
@[simp] theorem State.setPending_events : (s.setPending v).events = s.events := rfl
@[simp] theorem State.setPending_settings : (s.setPending v).settings = s.settings := rfl
@[simp] theorem State.setPending_resetCtl : (s.setPending v).resetCtl = s.resetCtl := rfl
end

section
variable (v : Underway)
@[simp] theorem State.setUnderway_pending : (s.setUnderway v).pending = s.pending := rfl
@[simp] theorem State.setUnderway_underway : (s.setUnderway v).underway = v := rfl
@[simp] theorem State.setUnderway_link : (s.setUnderway v).link = s.link := rfl
@[simp] theorem State.setUnderway_sender : (s.setUnderway v).sender = s.sender := rfl
@[simp] theorem State.setUnderway_objects : (s.setUnderway v).objects = s.objects := rfl
@[simp] theorem State.setUnderway_palettes : (s.setUnderway v).palettes = s.palettes := rfl
@[simp] theorem State.setUnderway_panel : (s.setUnderway v).panel = s.panel := rfl
@[simp] theorem State.setUnderway_sched : (s.setUnderway v).sched = s.sched := rfl
@[simp] theorem State.setUnderway_draw : (s.setUnderway v).draw = s.draw := rfl
@[simp] theorem State.setUnderway_nav : (s.setUnderway v).nav = s.nav := rfl
@[simp] theorem State.setUnderway_still : (s.setUnderway v).still = s.still := rfl
@[simp] theorem State.setUnderway_raster : (s.setUnderway v).raster = s.raster := rfl
@[simp] theorem State.setUnderway_mixer : (s.setUnderway v).mixer = s.mixer := rfl
@[simp] theorem State.setUnderway_divider : (s.setUnderway v).divider = s.divider := rfl
@[simp] theorem State.setUnderway_output : (s.setUnderway v).output = s.output := rfl
@[simp] theorem State.setUnderway_events : (s.setUnderway v).events = s.events := rfl
@[simp] theorem State.setUnderway_settings : (s.setUnderway v).settings = s.settings := rfl
@[simp] theorem State.setUnderway_resetCtl : (s.setUnderway v).resetCtl = s.resetCtl := rfl
end

section
variable (v : Link)
@[simp] theorem State.setLink_pending : (s.setLink v).pending = s.pending := rfl
@[simp] theorem State.setLink_underway : (s.setLink v).underway = s.underway := rfl
@[simp] theorem State.setLink_link : (s.setLink v).link = v := rfl
@[simp] theorem State.setLink_sender : (s.setLink v).sender = s.sender := rfl
@[simp] theorem State.setLink_objects : (s.setLink v).objects = s.objects := rfl
@[simp] theorem State.setLink_palettes : (s.setLink v).palettes = s.palettes := rfl
@[simp] theorem State.setLink_panel : (s.setLink v).panel = s.panel := rfl
@[simp] theorem State.setLink_sched : (s.setLink v).sched = s.sched := rfl
@[simp] theorem State.setLink_draw : (s.setLink v).draw = s.draw := rfl
@[simp] theorem State.setLink_nav : (s.setLink v).nav = s.nav := rfl
@[simp] theorem State.setLink_still : (s.setLink v).still = s.still := rfl
@[simp] theorem State.setLink_raster : (s.setLink v).raster = s.raster := rfl
@[simp] theorem State.setLink_mixer : (s.setLink v).mixer = s.mixer := rfl
@[simp] theorem State.setLink_divider : (s.setLink v).divider = s.divider := rfl
@[simp] theorem State.setLink_output : (s.setLink v).output = s.output := rfl
@[simp] theorem State.setLink_events : (s.setLink v).events = s.events := rfl
@[simp] theorem State.setLink_settings : (s.setLink v).settings = s.settings := rfl
@[simp] theorem State.setLink_resetCtl : (s.setLink v).resetCtl = s.resetCtl := rfl
end

section
variable (v : Sender)
@[simp] theorem State.setSender_pending : (s.setSender v).pending = s.pending := rfl
@[simp] theorem State.setSender_underway : (s.setSender v).underway = s.underway := rfl
@[simp] theorem State.setSender_link : (s.setSender v).link = s.link := rfl
@[simp] theorem State.setSender_sender : (s.setSender v).sender = v := rfl
@[simp] theorem State.setSender_objects : (s.setSender v).objects = s.objects := rfl
@[simp] theorem State.setSender_palettes : (s.setSender v).palettes = s.palettes := rfl
@[simp] theorem State.setSender_panel : (s.setSender v).panel = s.panel := rfl
@[simp] theorem State.setSender_sched : (s.setSender v).sched = s.sched := rfl
@[simp] theorem State.setSender_draw : (s.setSender v).draw = s.draw := rfl
@[simp] theorem State.setSender_nav : (s.setSender v).nav = s.nav := rfl
@[simp] theorem State.setSender_still : (s.setSender v).still = s.still := rfl
@[simp] theorem State.setSender_raster : (s.setSender v).raster = s.raster := rfl
@[simp] theorem State.setSender_mixer : (s.setSender v).mixer = s.mixer := rfl
@[simp] theorem State.setSender_divider : (s.setSender v).divider = s.divider := rfl
@[simp] theorem State.setSender_output : (s.setSender v).output = s.output := rfl
@[simp] theorem State.setSender_events : (s.setSender v).events = s.events := rfl
@[simp] theorem State.setSender_settings : (s.setSender v).settings = s.settings := rfl
@[simp] theorem State.setSender_resetCtl : (s.setSender v).resetCtl = s.resetCtl := rfl
end

section
variable (v : ObjectStore)
@[simp] theorem State.setObjects_pending : (s.setObjects v).pending = s.pending := rfl
@[simp] theorem State.setObjects_underway : (s.setObjects v).underway = s.underway := rfl
@[simp] theorem State.setObjects_link : (s.setObjects v).link = s.link := rfl
@[simp] theorem State.setObjects_sender : (s.setObjects v).sender = s.sender := rfl
@[simp] theorem State.setObjects_objects : (s.setObjects v).objects = v := rfl
@[simp] theorem State.setObjects_palettes : (s.setObjects v).palettes = s.palettes := rfl
@[simp] theorem State.setObjects_panel : (s.setObjects v).panel = s.panel := rfl
@[simp] theorem State.setObjects_sched : (s.setObjects v).sched = s.sched := rfl
@[simp] theorem State.setObjects_draw : (s.setObjects v).draw = s.draw := rfl
@[simp] theorem State.setObjects_nav : (s.setObjects v).nav = s.nav := rfl
@[simp] theorem State.setObjects_still : (s.setObjects v).still = s.still := rfl
@[simp] theorem State.setObjects_raster : (s.setObjects v).raster = s.raster := rfl
@[simp] theorem State.setObjects_mixer : (s.setObjects v).mixer = s.mixer := rfl
@[simp] theorem State.setObjects_divider : (s.setObjects v).divider = s.divider := rfl
@[simp] theorem State.setObjects_output : (s.setObjects v).output = s.output := rfl
@[simp] theorem State.setObjects_events : (s.setObjects v).events = s.events := rfl
@[simp] theorem State.setObjects_settings : (s.setObjects v).settings = s.settings := rfl
@[simp] theorem State.setObjects_resetCtl : (s.setObjects v).resetCtl = s.resetCtl := rfl
end

section
variable (v : Vector ScenePalette 8)
@[simp] theorem State.setPalettes_pending : (s.setPalettes v).pending = s.pending := rfl
@[simp] theorem State.setPalettes_underway : (s.setPalettes v).underway = s.underway := rfl
@[simp] theorem State.setPalettes_link : (s.setPalettes v).link = s.link := rfl
@[simp] theorem State.setPalettes_sender : (s.setPalettes v).sender = s.sender := rfl
@[simp] theorem State.setPalettes_objects : (s.setPalettes v).objects = s.objects := rfl
@[simp] theorem State.setPalettes_palettes : (s.setPalettes v).palettes = v := rfl
@[simp] theorem State.setPalettes_panel : (s.setPalettes v).panel = s.panel := rfl
@[simp] theorem State.setPalettes_sched : (s.setPalettes v).sched = s.sched := rfl
@[simp] theorem State.setPalettes_draw : (s.setPalettes v).draw = s.draw := rfl
@[simp] theorem State.setPalettes_nav : (s.setPalettes v).nav = s.nav := rfl
@[simp] theorem State.setPalettes_still : (s.setPalettes v).still = s.still := rfl
@[simp] theorem State.setPalettes_raster : (s.setPalettes v).raster = s.raster := rfl
@[simp] theorem State.setPalettes_mixer : (s.setPalettes v).mixer = s.mixer := rfl
@[simp] theorem State.setPalettes_divider : (s.setPalettes v).divider = s.divider := rfl
@[simp] theorem State.setPalettes_output : (s.setPalettes v).output = s.output := rfl
@[simp] theorem State.setPalettes_events : (s.setPalettes v).events = s.events := rfl
@[simp] theorem State.setPalettes_settings : (s.setPalettes v).settings = s.settings := rfl
@[simp] theorem State.setPalettes_resetCtl : (s.setPalettes v).resetCtl = s.resetCtl := rfl
end

section
variable (v : PanelPalette)
@[simp] theorem State.setPanel_pending : (s.setPanel v).pending = s.pending := rfl
@[simp] theorem State.setPanel_underway : (s.setPanel v).underway = s.underway := rfl
@[simp] theorem State.setPanel_link : (s.setPanel v).link = s.link := rfl
@[simp] theorem State.setPanel_sender : (s.setPanel v).sender = s.sender := rfl
@[simp] theorem State.setPanel_objects : (s.setPanel v).objects = s.objects := rfl
@[simp] theorem State.setPanel_palettes : (s.setPanel v).palettes = s.palettes := rfl
@[simp] theorem State.setPanel_panel : (s.setPanel v).panel = v := rfl
@[simp] theorem State.setPanel_sched : (s.setPanel v).sched = s.sched := rfl
@[simp] theorem State.setPanel_draw : (s.setPanel v).draw = s.draw := rfl
@[simp] theorem State.setPanel_nav : (s.setPanel v).nav = s.nav := rfl
@[simp] theorem State.setPanel_still : (s.setPanel v).still = s.still := rfl
@[simp] theorem State.setPanel_raster : (s.setPanel v).raster = s.raster := rfl
@[simp] theorem State.setPanel_mixer : (s.setPanel v).mixer = s.mixer := rfl
@[simp] theorem State.setPanel_divider : (s.setPanel v).divider = s.divider := rfl
@[simp] theorem State.setPanel_output : (s.setPanel v).output = s.output := rfl
@[simp] theorem State.setPanel_events : (s.setPanel v).events = s.events := rfl
@[simp] theorem State.setPanel_settings : (s.setPanel v).settings = s.settings := rfl
@[simp] theorem State.setPanel_resetCtl : (s.setPanel v).resetCtl = s.resetCtl := rfl
end

section
variable (v : Scheduler)
@[simp] theorem State.setSched_pending : (s.setSched v).pending = s.pending := rfl
@[simp] theorem State.setSched_underway : (s.setSched v).underway = s.underway := rfl
@[simp] theorem State.setSched_link : (s.setSched v).link = s.link := rfl
@[simp] theorem State.setSched_sender : (s.setSched v).sender = s.sender := rfl
@[simp] theorem State.setSched_objects : (s.setSched v).objects = s.objects := rfl
@[simp] theorem State.setSched_palettes : (s.setSched v).palettes = s.palettes := rfl
@[simp] theorem State.setSched_panel : (s.setSched v).panel = s.panel := rfl
@[simp] theorem State.setSched_sched : (s.setSched v).sched = v := rfl
@[simp] theorem State.setSched_draw : (s.setSched v).draw = s.draw := rfl
@[simp] theorem State.setSched_nav : (s.setSched v).nav = s.nav := rfl
@[simp] theorem State.setSched_still : (s.setSched v).still = s.still := rfl
@[simp] theorem State.setSched_raster : (s.setSched v).raster = s.raster := rfl
@[simp] theorem State.setSched_mixer : (s.setSched v).mixer = s.mixer := rfl
@[simp] theorem State.setSched_divider : (s.setSched v).divider = s.divider := rfl
@[simp] theorem State.setSched_output : (s.setSched v).output = s.output := rfl
@[simp] theorem State.setSched_events : (s.setSched v).events = s.events := rfl
@[simp] theorem State.setSched_settings : (s.setSched v).settings = s.settings := rfl
@[simp] theorem State.setSched_resetCtl : (s.setSched v).resetCtl = s.resetCtl := rfl
end

section
variable (v : Draw)
@[simp] theorem State.setDraw_pending : (s.setDraw v).pending = s.pending := rfl
@[simp] theorem State.setDraw_underway : (s.setDraw v).underway = s.underway := rfl
@[simp] theorem State.setDraw_link : (s.setDraw v).link = s.link := rfl
@[simp] theorem State.setDraw_sender : (s.setDraw v).sender = s.sender := rfl
@[simp] theorem State.setDraw_objects : (s.setDraw v).objects = s.objects := rfl
@[simp] theorem State.setDraw_palettes : (s.setDraw v).palettes = s.palettes := rfl
@[simp] theorem State.setDraw_panel : (s.setDraw v).panel = s.panel := rfl
@[simp] theorem State.setDraw_sched : (s.setDraw v).sched = s.sched := rfl
@[simp] theorem State.setDraw_draw : (s.setDraw v).draw = v := rfl
@[simp] theorem State.setDraw_nav : (s.setDraw v).nav = s.nav := rfl
@[simp] theorem State.setDraw_still : (s.setDraw v).still = s.still := rfl
@[simp] theorem State.setDraw_raster : (s.setDraw v).raster = s.raster := rfl
@[simp] theorem State.setDraw_mixer : (s.setDraw v).mixer = s.mixer := rfl
@[simp] theorem State.setDraw_divider : (s.setDraw v).divider = s.divider := rfl
@[simp] theorem State.setDraw_output : (s.setDraw v).output = s.output := rfl
@[simp] theorem State.setDraw_events : (s.setDraw v).events = s.events := rfl
@[simp] theorem State.setDraw_settings : (s.setDraw v).settings = s.settings := rfl
@[simp] theorem State.setDraw_resetCtl : (s.setDraw v).resetCtl = s.resetCtl := rfl
end

section
variable (v : Nav)
@[simp] theorem State.setNav_pending : (s.setNav v).pending = s.pending := rfl
@[simp] theorem State.setNav_underway : (s.setNav v).underway = s.underway := rfl
@[simp] theorem State.setNav_link : (s.setNav v).link = s.link := rfl
@[simp] theorem State.setNav_sender : (s.setNav v).sender = s.sender := rfl
@[simp] theorem State.setNav_objects : (s.setNav v).objects = s.objects := rfl
@[simp] theorem State.setNav_palettes : (s.setNav v).palettes = s.palettes := rfl
@[simp] theorem State.setNav_panel : (s.setNav v).panel = s.panel := rfl
@[simp] theorem State.setNav_sched : (s.setNav v).sched = s.sched := rfl
@[simp] theorem State.setNav_draw : (s.setNav v).draw = s.draw := rfl
@[simp] theorem State.setNav_nav : (s.setNav v).nav = v := rfl
@[simp] theorem State.setNav_still : (s.setNav v).still = s.still := rfl
@[simp] theorem State.setNav_raster : (s.setNav v).raster = s.raster := rfl
@[simp] theorem State.setNav_mixer : (s.setNav v).mixer = s.mixer := rfl
@[simp] theorem State.setNav_divider : (s.setNav v).divider = s.divider := rfl
@[simp] theorem State.setNav_output : (s.setNav v).output = s.output := rfl
@[simp] theorem State.setNav_events : (s.setNav v).events = s.events := rfl
@[simp] theorem State.setNav_settings : (s.setNav v).settings = s.settings := rfl
@[simp] theorem State.setNav_resetCtl : (s.setNav v).resetCtl = s.resetCtl := rfl
end

section
variable (v : Still)
@[simp] theorem State.setStill_pending : (s.setStill v).pending = s.pending := rfl
@[simp] theorem State.setStill_underway : (s.setStill v).underway = s.underway := rfl
@[simp] theorem State.setStill_link : (s.setStill v).link = s.link := rfl
@[simp] theorem State.setStill_sender : (s.setStill v).sender = s.sender := rfl
@[simp] theorem State.setStill_objects : (s.setStill v).objects = s.objects := rfl
@[simp] theorem State.setStill_palettes : (s.setStill v).palettes = s.palettes := rfl
@[simp] theorem State.setStill_panel : (s.setStill v).panel = s.panel := rfl
@[simp] theorem State.setStill_sched : (s.setStill v).sched = s.sched := rfl
@[simp] theorem State.setStill_draw : (s.setStill v).draw = s.draw := rfl
@[simp] theorem State.setStill_nav : (s.setStill v).nav = s.nav := rfl
@[simp] theorem State.setStill_still : (s.setStill v).still = v := rfl
@[simp] theorem State.setStill_raster : (s.setStill v).raster = s.raster := rfl
@[simp] theorem State.setStill_mixer : (s.setStill v).mixer = s.mixer := rfl
@[simp] theorem State.setStill_divider : (s.setStill v).divider = s.divider := rfl
@[simp] theorem State.setStill_output : (s.setStill v).output = s.output := rfl
@[simp] theorem State.setStill_events : (s.setStill v).events = s.events := rfl
@[simp] theorem State.setStill_settings : (s.setStill v).settings = s.settings := rfl
@[simp] theorem State.setStill_resetCtl : (s.setStill v).resetCtl = s.resetCtl := rfl
end

section
variable (v : Raster)
@[simp] theorem State.setRaster_pending : (s.setRaster v).pending = s.pending := rfl
@[simp] theorem State.setRaster_underway : (s.setRaster v).underway = s.underway := rfl
@[simp] theorem State.setRaster_link : (s.setRaster v).link = s.link := rfl
@[simp] theorem State.setRaster_sender : (s.setRaster v).sender = s.sender := rfl
@[simp] theorem State.setRaster_objects : (s.setRaster v).objects = s.objects := rfl
@[simp] theorem State.setRaster_palettes : (s.setRaster v).palettes = s.palettes := rfl
@[simp] theorem State.setRaster_panel : (s.setRaster v).panel = s.panel := rfl
@[simp] theorem State.setRaster_sched : (s.setRaster v).sched = s.sched := rfl
@[simp] theorem State.setRaster_draw : (s.setRaster v).draw = s.draw := rfl
@[simp] theorem State.setRaster_nav : (s.setRaster v).nav = s.nav := rfl
@[simp] theorem State.setRaster_still : (s.setRaster v).still = s.still := rfl
@[simp] theorem State.setRaster_raster : (s.setRaster v).raster = v := rfl
@[simp] theorem State.setRaster_mixer : (s.setRaster v).mixer = s.mixer := rfl
@[simp] theorem State.setRaster_divider : (s.setRaster v).divider = s.divider := rfl
@[simp] theorem State.setRaster_output : (s.setRaster v).output = s.output := rfl
@[simp] theorem State.setRaster_events : (s.setRaster v).events = s.events := rfl
@[simp] theorem State.setRaster_settings : (s.setRaster v).settings = s.settings := rfl
@[simp] theorem State.setRaster_resetCtl : (s.setRaster v).resetCtl = s.resetCtl := rfl
end

section
variable (v : Mixer)
@[simp] theorem State.setMixer_pending : (s.setMixer v).pending = s.pending := rfl
@[simp] theorem State.setMixer_underway : (s.setMixer v).underway = s.underway := rfl
@[simp] theorem State.setMixer_link : (s.setMixer v).link = s.link := rfl
@[simp] theorem State.setMixer_sender : (s.setMixer v).sender = s.sender := rfl
@[simp] theorem State.setMixer_objects : (s.setMixer v).objects = s.objects := rfl
@[simp] theorem State.setMixer_palettes : (s.setMixer v).palettes = s.palettes := rfl
@[simp] theorem State.setMixer_panel : (s.setMixer v).panel = s.panel := rfl
@[simp] theorem State.setMixer_sched : (s.setMixer v).sched = s.sched := rfl
@[simp] theorem State.setMixer_draw : (s.setMixer v).draw = s.draw := rfl
@[simp] theorem State.setMixer_nav : (s.setMixer v).nav = s.nav := rfl
@[simp] theorem State.setMixer_still : (s.setMixer v).still = s.still := rfl
@[simp] theorem State.setMixer_raster : (s.setMixer v).raster = s.raster := rfl
@[simp] theorem State.setMixer_mixer : (s.setMixer v).mixer = v := rfl
@[simp] theorem State.setMixer_divider : (s.setMixer v).divider = s.divider := rfl
@[simp] theorem State.setMixer_output : (s.setMixer v).output = s.output := rfl
@[simp] theorem State.setMixer_events : (s.setMixer v).events = s.events := rfl
@[simp] theorem State.setMixer_settings : (s.setMixer v).settings = s.settings := rfl
@[simp] theorem State.setMixer_resetCtl : (s.setMixer v).resetCtl = s.resetCtl := rfl
end

section
variable (v : Divider)
@[simp] theorem State.setDivider_pending : (s.setDivider v).pending = s.pending := rfl
@[simp] theorem State.setDivider_underway : (s.setDivider v).underway = s.underway := rfl
@[simp] theorem State.setDivider_link : (s.setDivider v).link = s.link := rfl
@[simp] theorem State.setDivider_sender : (s.setDivider v).sender = s.sender := rfl
@[simp] theorem State.setDivider_objects : (s.setDivider v).objects = s.objects := rfl
@[simp] theorem State.setDivider_palettes : (s.setDivider v).palettes = s.palettes := rfl
@[simp] theorem State.setDivider_panel : (s.setDivider v).panel = s.panel := rfl
@[simp] theorem State.setDivider_sched : (s.setDivider v).sched = s.sched := rfl
@[simp] theorem State.setDivider_draw : (s.setDivider v).draw = s.draw := rfl
@[simp] theorem State.setDivider_nav : (s.setDivider v).nav = s.nav := rfl
@[simp] theorem State.setDivider_still : (s.setDivider v).still = s.still := rfl
@[simp] theorem State.setDivider_raster : (s.setDivider v).raster = s.raster := rfl
@[simp] theorem State.setDivider_mixer : (s.setDivider v).mixer = s.mixer := rfl
@[simp] theorem State.setDivider_divider : (s.setDivider v).divider = v := rfl
@[simp] theorem State.setDivider_output : (s.setDivider v).output = s.output := rfl
@[simp] theorem State.setDivider_events : (s.setDivider v).events = s.events := rfl
@[simp] theorem State.setDivider_settings : (s.setDivider v).settings = s.settings := rfl
@[simp] theorem State.setDivider_resetCtl : (s.setDivider v).resetCtl = s.resetCtl := rfl
end

section
variable (v : Output)
@[simp] theorem State.setOutput_pending : (s.setOutput v).pending = s.pending := rfl
@[simp] theorem State.setOutput_underway : (s.setOutput v).underway = s.underway := rfl
@[simp] theorem State.setOutput_link : (s.setOutput v).link = s.link := rfl
@[simp] theorem State.setOutput_sender : (s.setOutput v).sender = s.sender := rfl
@[simp] theorem State.setOutput_objects : (s.setOutput v).objects = s.objects := rfl
@[simp] theorem State.setOutput_palettes : (s.setOutput v).palettes = s.palettes := rfl
@[simp] theorem State.setOutput_panel : (s.setOutput v).panel = s.panel := rfl
@[simp] theorem State.setOutput_sched : (s.setOutput v).sched = s.sched := rfl
@[simp] theorem State.setOutput_draw : (s.setOutput v).draw = s.draw := rfl
@[simp] theorem State.setOutput_nav : (s.setOutput v).nav = s.nav := rfl
@[simp] theorem State.setOutput_still : (s.setOutput v).still = s.still := rfl
@[simp] theorem State.setOutput_raster : (s.setOutput v).raster = s.raster := rfl
@[simp] theorem State.setOutput_mixer : (s.setOutput v).mixer = s.mixer := rfl
@[simp] theorem State.setOutput_divider : (s.setOutput v).divider = s.divider := rfl
@[simp] theorem State.setOutput_output : (s.setOutput v).output = v := rfl
@[simp] theorem State.setOutput_events : (s.setOutput v).events = s.events := rfl
@[simp] theorem State.setOutput_settings : (s.setOutput v).settings = s.settings := rfl
@[simp] theorem State.setOutput_resetCtl : (s.setOutput v).resetCtl = s.resetCtl := rfl
end

section
variable (v : Events)
@[simp] theorem State.setEvents_pending : (s.setEvents v).pending = s.pending := rfl
@[simp] theorem State.setEvents_underway : (s.setEvents v).underway = s.underway := rfl
@[simp] theorem State.setEvents_link : (s.setEvents v).link = s.link := rfl
@[simp] theorem State.setEvents_sender : (s.setEvents v).sender = s.sender := rfl
@[simp] theorem State.setEvents_objects : (s.setEvents v).objects = s.objects := rfl
@[simp] theorem State.setEvents_palettes : (s.setEvents v).palettes = s.palettes := rfl
@[simp] theorem State.setEvents_panel : (s.setEvents v).panel = s.panel := rfl
@[simp] theorem State.setEvents_sched : (s.setEvents v).sched = s.sched := rfl
@[simp] theorem State.setEvents_draw : (s.setEvents v).draw = s.draw := rfl
@[simp] theorem State.setEvents_nav : (s.setEvents v).nav = s.nav := rfl
@[simp] theorem State.setEvents_still : (s.setEvents v).still = s.still := rfl
@[simp] theorem State.setEvents_raster : (s.setEvents v).raster = s.raster := rfl
@[simp] theorem State.setEvents_mixer : (s.setEvents v).mixer = s.mixer := rfl
@[simp] theorem State.setEvents_divider : (s.setEvents v).divider = s.divider := rfl
@[simp] theorem State.setEvents_output : (s.setEvents v).output = s.output := rfl
@[simp] theorem State.setEvents_events : (s.setEvents v).events = v := rfl
@[simp] theorem State.setEvents_settings : (s.setEvents v).settings = s.settings := rfl
@[simp] theorem State.setEvents_resetCtl : (s.setEvents v).resetCtl = s.resetCtl := rfl
end

section
variable (v : Settings)
@[simp] theorem State.setSettings_pending : (s.setSettings v).pending = s.pending := rfl
@[simp] theorem State.setSettings_underway : (s.setSettings v).underway = s.underway := rfl
@[simp] theorem State.setSettings_link : (s.setSettings v).link = s.link := rfl
@[simp] theorem State.setSettings_sender : (s.setSettings v).sender = s.sender := rfl
@[simp] theorem State.setSettings_objects : (s.setSettings v).objects = s.objects := rfl
@[simp] theorem State.setSettings_palettes : (s.setSettings v).palettes = s.palettes := rfl
@[simp] theorem State.setSettings_panel : (s.setSettings v).panel = s.panel := rfl
@[simp] theorem State.setSettings_sched : (s.setSettings v).sched = s.sched := rfl
@[simp] theorem State.setSettings_draw : (s.setSettings v).draw = s.draw := rfl
@[simp] theorem State.setSettings_nav : (s.setSettings v).nav = s.nav := rfl
@[simp] theorem State.setSettings_still : (s.setSettings v).still = s.still := rfl
@[simp] theorem State.setSettings_raster : (s.setSettings v).raster = s.raster := rfl
@[simp] theorem State.setSettings_mixer : (s.setSettings v).mixer = s.mixer := rfl
@[simp] theorem State.setSettings_divider : (s.setSettings v).divider = s.divider := rfl
@[simp] theorem State.setSettings_output : (s.setSettings v).output = s.output := rfl
@[simp] theorem State.setSettings_events : (s.setSettings v).events = s.events := rfl
@[simp] theorem State.setSettings_settings : (s.setSettings v).settings = v := rfl
@[simp] theorem State.setSettings_resetCtl : (s.setSettings v).resetCtl = s.resetCtl := rfl
end

section
variable (v : ResetCtl)
@[simp] theorem State.setResetCtl_pending : (s.setResetCtl v).pending = s.pending := rfl
@[simp] theorem State.setResetCtl_underway : (s.setResetCtl v).underway = s.underway := rfl
@[simp] theorem State.setResetCtl_link : (s.setResetCtl v).link = s.link := rfl
@[simp] theorem State.setResetCtl_sender : (s.setResetCtl v).sender = s.sender := rfl
@[simp] theorem State.setResetCtl_objects : (s.setResetCtl v).objects = s.objects := rfl
@[simp] theorem State.setResetCtl_palettes : (s.setResetCtl v).palettes = s.palettes := rfl
@[simp] theorem State.setResetCtl_panel : (s.setResetCtl v).panel = s.panel := rfl
@[simp] theorem State.setResetCtl_sched : (s.setResetCtl v).sched = s.sched := rfl
@[simp] theorem State.setResetCtl_draw : (s.setResetCtl v).draw = s.draw := rfl
@[simp] theorem State.setResetCtl_nav : (s.setResetCtl v).nav = s.nav := rfl
@[simp] theorem State.setResetCtl_still : (s.setResetCtl v).still = s.still := rfl
@[simp] theorem State.setResetCtl_raster : (s.setResetCtl v).raster = s.raster := rfl
@[simp] theorem State.setResetCtl_mixer : (s.setResetCtl v).mixer = s.mixer := rfl
@[simp] theorem State.setResetCtl_divider : (s.setResetCtl v).divider = s.divider := rfl
@[simp] theorem State.setResetCtl_output : (s.setResetCtl v).output = s.output := rfl
@[simp] theorem State.setResetCtl_events : (s.setResetCtl v).events = s.events := rfl
@[simp] theorem State.setResetCtl_settings : (s.setResetCtl v).settings = s.settings := rfl
@[simp] theorem State.setResetCtl_resetCtl : (s.setResetCtl v).resetCtl = v := rfl
end

/-! ## A later write of a block replaces an earlier one -/

@[simp] theorem State.setPending_setPending (s : State) (v w : List Instr) : (s.setPending v).setPending w = s.setPending w := rfl
@[simp] theorem State.setUnderway_setUnderway (s : State) (v w : Underway) : (s.setUnderway v).setUnderway w = s.setUnderway w := rfl
@[simp] theorem State.setLink_setLink (s : State) (v w : Link) : (s.setLink v).setLink w = s.setLink w := rfl
@[simp] theorem State.setSender_setSender (s : State) (v w : Sender) : (s.setSender v).setSender w = s.setSender w := rfl
@[simp] theorem State.setObjects_setObjects (s : State) (v w : ObjectStore) : (s.setObjects v).setObjects w = s.setObjects w := rfl
@[simp] theorem State.setPalettes_setPalettes (s : State) (v w : Vector ScenePalette 8) : (s.setPalettes v).setPalettes w = s.setPalettes w := rfl
@[simp] theorem State.setPanel_setPanel (s : State) (v w : PanelPalette) : (s.setPanel v).setPanel w = s.setPanel w := rfl
@[simp] theorem State.setSched_setSched (s : State) (v w : Scheduler) : (s.setSched v).setSched w = s.setSched w := rfl
@[simp] theorem State.setDraw_setDraw (s : State) (v w : Draw) : (s.setDraw v).setDraw w = s.setDraw w := rfl
@[simp] theorem State.setNav_setNav (s : State) (v w : Nav) : (s.setNav v).setNav w = s.setNav w := rfl
@[simp] theorem State.setStill_setStill (s : State) (v w : Still) : (s.setStill v).setStill w = s.setStill w := rfl
@[simp] theorem State.setRaster_setRaster (s : State) (v w : Raster) : (s.setRaster v).setRaster w = s.setRaster w := rfl
@[simp] theorem State.setMixer_setMixer (s : State) (v w : Mixer) : (s.setMixer v).setMixer w = s.setMixer w := rfl
@[simp] theorem State.setDivider_setDivider (s : State) (v w : Divider) : (s.setDivider v).setDivider w = s.setDivider w := rfl
@[simp] theorem State.setOutput_setOutput (s : State) (v w : Output) : (s.setOutput v).setOutput w = s.setOutput w := rfl
@[simp] theorem State.setEvents_setEvents (s : State) (v w : Events) : (s.setEvents v).setEvents w = s.setEvents w := rfl
@[simp] theorem State.setSettings_setSettings (s : State) (v w : Settings) : (s.setSettings v).setSettings w = s.setSettings w := rfl
@[simp] theorem State.setResetCtl_setResetCtl (s : State) (v w : ResetCtl) : (s.setResetCtl v).setResetCtl w = s.setResetCtl w := rfl

end Sys2Proof.Machine
end

