-- ==== Sys2Proof/Laws/Buffers.lean ====
section
/-!
SUPPORT. The laws of the addressed buffers: every write keeps the canonical form, a read after a write gives the value
written at its address and the old value elsewhere, and the reset state's buffers are canonical.
-/

namespace Sys2Proof.Machine

section
variable {α : Type} [DecidableEq α] (d : α)

theorem Sparse.wf_cons (k : Nat) (v : α) (m : Sparse α) :
    Sparse.wf d ((k, v) :: m) = true ↔ v ≠ d ∧ (∀ p ∈ m, k < p.1) ∧ Sparse.wf d m = true := by
  simp [Sparse.wf, and_assoc]

omit [DecidableEq α] in
/-- Addresses below every listed one read as the default. -/
theorem Sparse.get_of_lt (m : Sparse α) (a : Nat) (h : ∀ p ∈ m, a < p.1) : Sparse.get d m a = d := by
  induction m with
  | nil => rfl
  | cons p m ih =>
    obtain ⟨k, v⟩ := p
    have hk : a < k := h (k, v) (by simp)
    simp only [Sparse.get, if_neg (Nat.ne_of_lt hk)]
    exact ih fun q hq => h q (by simp [hq])

/-- A write lists no address but its own and those listed before. -/
theorem Sparse.mem_set {m : Sparse α} {a : Nat} {v : α} {p : Nat × α} (h : p ∈ Sparse.set d m a v) :
    p.1 = a ∨ p ∈ m := by
  induction m with
  | nil =>
    by_cases hv : v = d <;> simp [Sparse.set, hv] at h
    exact .inl (by rw [h])
  | cons q m ih =>
    obtain ⟨k, w⟩ := q
    simp only [Sparse.set] at h
    split at h
    · split at h
      · exact .inr h
      · obtain rfl | h := List.mem_cons.1 h
        · exact .inl rfl
        · exact .inr h
    · split at h
      · split at h
        · exact .inr (List.mem_cons_of_mem _ h)
        · obtain rfl | h := List.mem_cons.1 h
          · exact .inl rfl
          · exact .inr (List.mem_cons_of_mem _ h)
      · obtain rfl | h := List.mem_cons.1 h
        · exact .inr (by simp)
        · exact (ih h).imp id (List.mem_cons_of_mem _)

/-- A write keeps the canonical form. -/
theorem Sparse.wf_set {m : Sparse α} (h : Sparse.wf d m = true) (a : Nat) (v : α) :
    Sparse.wf d (Sparse.set d m a v) = true := by
  induction m with
  | nil => by_cases hv : v = d <;> simp [Sparse.set, hv, Sparse.wf]
  | cons q m ih =>
    obtain ⟨k, w⟩ := q
    obtain ⟨hw, hk, hm⟩ := (Sparse.wf_cons d k w m).1 h
    simp only [Sparse.set]
    split
    · rename_i hlt
      split
      · exact h
      · rename_i hv
        refine (Sparse.wf_cons d _ _ _).2 ⟨hv, fun p hp => ?_, h⟩
        obtain rfl | hp := List.mem_cons.1 hp
        · exact hlt
        · exact Nat.lt_trans hlt (hk p hp)
    · split
      · rename_i heq
        subst heq
        split
        · exact hm
        · rename_i hv
          exact (Sparse.wf_cons d _ _ _).2 ⟨hv, hk, hm⟩
      · refine (Sparse.wf_cons d _ _ _).2 ⟨hw, fun p hp => ?_, ih hm⟩
        obtain hp | hp := Sparse.mem_set d hp
        · omega
        · exact hk p hp

/-- Reading the address written gives the value written. -/
theorem Sparse.get_set_same {m : Sparse α} (h : Sparse.wf d m = true) (a : Nat) (v : α) :
    Sparse.get d (Sparse.set d m a v) a = v := by
  induction m with
  | nil => by_cases hv : v = d <;> simp [Sparse.set, hv, Sparse.get]
  | cons q m ih =>
    obtain ⟨k, w⟩ := q
    obtain ⟨-, hk, hm⟩ := (Sparse.wf_cons d k w m).1 h
    simp only [Sparse.set]
    split
    · rename_i hlt
      split
      · rename_i hv
        rw [hv]
        exact Sparse.get_of_lt d _ a fun p hp => by
          obtain rfl | hp := List.mem_cons.1 hp
          · exact hlt
          · exact Nat.lt_trans hlt (hk p hp)
      · simp [Sparse.get]
    · split
      · rename_i heq
        subst heq
        split
        · rename_i hv
          rw [hv]
          exact Sparse.get_of_lt d _ a hk
        · simp [Sparse.get]
      · rename_i hne
        simp only [Sparse.get, if_neg hne]
        exact ih hm

/-- Reading any other address gives what it gave before. -/
theorem Sparse.get_set_other {m : Sparse α} {a b : Nat} (hab : b ≠ a) (v : α) :
    Sparse.get d (Sparse.set d m a v) b = Sparse.get d m b := by
  induction m with
  | nil => by_cases hv : v = d <;> simp [Sparse.set, hv, Sparse.get, hab]
  | cons q m ih =>
    obtain ⟨k, w⟩ := q
    simp only [Sparse.set]
    split
    · split
      · rfl
      · simp [Sparse.get, hab]
    · split
      · rename_i heq
        subst heq
        split <;> simp [Sparse.get, hab]
      · simp only [Sparse.get]
        split
        · rfl
        · exact ih

/-- What `mapIf` lists was listed, at the same address. -/
theorem Sparse.mem_mapIf {m : Sparse α} {p : Nat → Bool} {f : α → α} {q : Nat × α}
    (h : q ∈ Sparse.mapIf d p f m) : ∃ r ∈ m, r.1 = q.1 := by
  induction m with
  | nil => simp [Sparse.mapIf] at h
  | cons r m ih =>
    obtain ⟨k, v⟩ := r
    have tail : q ∈ Sparse.mapIf d p f m → ∃ r ∈ (k, v) :: m, r.1 = q.1 := fun h => by
      obtain ⟨r, hr, e⟩ := ih h
      exact ⟨r, List.mem_cons_of_mem _ hr, e⟩
    have head : q.1 = k → ∃ r ∈ (k, v) :: m, r.1 = q.1 := fun e => ⟨(k, v), by simp, e.symm⟩
    simp only [Sparse.mapIf] at h
    split at h
    · split at h
      · exact tail h
      · obtain rfl | h := List.mem_cons.1 h
        · exact head rfl
        · exact tail h
    · obtain rfl | h := List.mem_cons.1 h
      · exact head rfl
      · exact tail h

/-- `mapIf` keeps the canonical form. -/
theorem Sparse.wf_mapIf {m : Sparse α} (h : Sparse.wf d m = true) (p : Nat → Bool) (f : α → α) :
    Sparse.wf d (Sparse.mapIf d p f m) = true := by
  induction m with
  | nil => rfl
  | cons r m ih =>
    obtain ⟨k, v⟩ := r
    obtain ⟨hv, hk, hm⟩ := (Sparse.wf_cons d k v m).1 h
    have above : ∀ q ∈ Sparse.mapIf d p f m, k < q.1 := fun q hq => by
      obtain ⟨r, hr, e⟩ := Sparse.mem_mapIf d hq
      exact e ▸ hk r hr
    simp only [Sparse.mapIf]
    split
    · split
      · exact ih hm
      · rename_i hf
        exact (Sparse.wf_cons d _ _ _).2 ⟨hf, above, ih hm⟩
    · exact (Sparse.wf_cons d _ _ _).2 ⟨hv, above, ih hm⟩

/-- `mapIf` with an `f` that keeps the default reads as `f` of the old value where `p` picks, as before elsewhere. -/
theorem Sparse.get_mapIf {m : Sparse α} (h : Sparse.wf d m = true) (p : Nat → Bool) {f : α → α} (hf : f d = d)
    (a : Nat) : Sparse.get d (Sparse.mapIf d p f m) a = if p a then f (Sparse.get d m a) else Sparse.get d m a := by
  induction m with
  | nil => simp [Sparse.mapIf, Sparse.get, hf]
  | cons r m ih =>
    obtain ⟨k, v⟩ := r
    obtain ⟨-, hk, hm⟩ := (Sparse.wf_cons d k v m).1 h
    have low : a = k → Sparse.get d (Sparse.mapIf d p f m) a = d := fun e =>
      Sparse.get_of_lt d _ a fun q hq => by
        obtain ⟨r, hr, e'⟩ := Sparse.mem_mapIf d hq
        exact e ▸ e' ▸ hk r hr
    by_cases ha : a = k
    · have hl := low ha
      subst ha
      by_cases hp : p a = true
      · by_cases hv : f v = d <;> simp [Sparse.mapIf, hp, hv, Sparse.get, hl]
      · simp [Sparse.mapIf, hp, Sparse.get]
    · have hi := ih hm
      by_cases hp : p k = true
      · by_cases hv : f v = d <;> simp [Sparse.mapIf, hp, hv, Sparse.get, ha, hi]
      · simp [Sparse.mapIf, hp, Sparse.get, ha, hi]

end

/-! ## Plane and palette writes -/

theorem Plane.put_wf {p : Plane} (h : Sparse.wf 0 p = true) (mask value : BitVec 12) (x y : Nat) :
    Sparse.wf 0 (p.put mask value x y) = true := Sparse.wf_set 0 h _ _

theorem Plane.clear_wf {p : Plane} (h : Sparse.wf 0 p = true) (mask : BitVec 12) (r : Rect) :
    Sparse.wf 0 (p.clear mask r) = true := Sparse.wf_mapIf 0 h _ _

theorem Plane.blitRow_wf (mask : BitVec 12) (clip : Rect) (keyed : Bool) (y : Nat) :
    ∀ (row : List Byte) (x : Nat) (p : Plane), Sparse.wf 0 p = true →
      Sparse.wf 0 (p.blitRow mask clip keyed x y row) = true
  | [], _, _, h => h
  | b :: row, x, p, h => by
    simp only [Plane.blitRow]
    refine Plane.blitRow_wf mask clip keyed y row (x + 1) _ ?_
    split
    · exact Plane.put_wf h _ _ _ _
    · exact h

theorem Plane.blitRows_wf (mask : BitVec 12) (clip : Rect) (keyed : Bool) (x : Nat) :
    ∀ (rows : List (List Byte)) (y : Nat) (p : Plane), Sparse.wf 0 p = true →
      Sparse.wf 0 (p.blitRows mask clip keyed x y rows) = true
  | [], _, _, h => h
  | row :: rows, y, p, h => by
    simp only [Plane.blitRows]
    exact Plane.blitRows_wf mask clip keyed x rows (y + 1) _ (Plane.blitRow_wf mask clip keyed y row x p h)

theorem Plane.blit_wf {p : Plane} (h : Sparse.wf 0 p = true) (mask : BitVec 12) (b : Blit) :
    Sparse.wf 0 (p.blit mask b) = true := Plane.blitRows_wf mask b.clip b.keyed b.x b.rows b.y p h

/-- A fold of writes that each keep the canonical form keeps it. -/
theorem foldl_wf {β : Type} (f : Plane → β → Plane) (hf : ∀ p b, Sparse.wf 0 p = true → Sparse.wf 0 (f p b) = true) :
    ∀ (l : List β) (p : Plane), Sparse.wf 0 p = true → Sparse.wf 0 (l.foldl f p) = true
  | [], _, h => h
  | b :: l, p, h => foldl_wf f hf l (f p b) (hf p b h)

theorem Plane.panelWrite_wf {p : Plane} (h : Sparse.wf 0 p = true) (mask : BitVec 12) (j : PanelJob) :
    Sparse.wf 0 (p.panelWrite mask j) = true := by
  refine foldl_wf _ (fun p q hp => ?_) _ p h
  split
  · exact Plane.put_wf hp _ _ _ _
  · exact hp

theorem Plane.resync_wf {back : Plane} (h : Sparse.wf 0 back = true) (mask : BitVec 12) (r : Rect) (front : Plane) :
    Sparse.wf 0 (Plane.resync mask r front back) = true := foldl_wf _ (fun _ _ hp => Sparse.wf_set 0 hp _ _) _ _ h

theorem sceneWrite_wf {p : Plane} (h : Sparse.wf 0 p = true) (r : Rect) (mask : BitVec 12) (blits : List Blit) :
    Sparse.wf 0 (sceneWrite r mask blits p) = true :=
  foldl_wf _ (fun _ _ hp => Plane.blit_wf hp _ _) _ _ (Plane.clear_wf h mask r)

theorem RunningPanel.write_wf {p : Plane} (h : Sparse.wf 0 p = true) (j : RunningPanel) :
    Sparse.wf 0 (j.write p) = true := by
  simp only [RunningPanel.write]
  split
  · exact Plane.panelWrite_wf (Plane.clear_wf h _ _) _ _
  · exact Plane.panelWrite_wf h _ _

theorem writeEntries_wf :
    ∀ (es : List (Nat × Entry)) (m : Sparse Entry), Sparse.wf clearEntry m = true →
      Sparse.wf clearEntry (writeEntries es m) = true
  | [], _, h => h
  | (slot, e) :: es, m, h => by
    simp only [writeEntries]
    refine writeEntries_wf es _ ?_
    split
    · exact Sparse.wf_set clearEntry h _ _
    · exact h

/-- The reset state's buffers are canonical. -/
theorem State.reset_buffersWf : State.reset.buffersWf = true := by decide

end Sys2Proof.Machine
end

