-- ==== Sys2Proof/Laws/Operations.lean ====
section
/-!
SUPPORT. What the shared operations can do, said once: the Event Unit's raising, the output state, the parsers, PATCH
requests, the Update Backlog, and the frame of a command. A proof cites these and unfolds none of the operations.
-/

namespace Sys2Proof.Machine

/-- Output Control as a raising leaves it: unchanged, or in FAULT by R166. -/
def OutputStep (x y : Output) : Prop :=
  y = x ∨ (x.state.canFault = true ∧ y = { x with state := .fault, target := none })

/-- A change that a raising can make. -/
def EventChange (s t : State) : Prop :=
  ∃ ev out, t = (s.setEvents ev).setOutput out ∧ OutputStep s.output out

/-- A change that the parsers can make: the link, an object that a gap breaks, the Event Unit, and the entry into FAULT. -/
def ParserChange (s t : State) : Prop :=
  ∃ l o ev out, t = (((s.setLink l).setObjects o).setEvents ev).setOutput out ∧ OutputStep s.output out

theorem OutputStep.refl (x : Output) : OutputStep x x := .inl rfl

theorem OutputStep.trans {x y z : Output} (h1 : OutputStep x y) (h2 : OutputStep y z) : OutputStep x z := by
  obtain rfl | ⟨hc, rfl⟩ := h1
  · exact h2
  · obtain rfl | ⟨hc2, -⟩ := h2
    · exact .inr ⟨hc, rfl⟩
    · simp [OutputState.canFault] at hc2

theorem EventChange.refl (s : State) : EventChange s s := ⟨s.events, s.output, rfl, .refl _⟩

theorem EventChange.trans {s t u : State} (h1 : EventChange s t) (h2 : EventChange t u) : EventChange s u := by
  obtain ⟨_, _, rfl, ho1⟩ := h1
  obtain ⟨ev, out, rfl, ho2⟩ := h2
  exact ⟨ev, out, rfl, ho1.trans ho2⟩

theorem ParserChange.refl (s : State) : ParserChange s s := ⟨s.link, s.objects, s.events, s.output, rfl, .refl _⟩

theorem ParserChange.trans {s t u : State} (h1 : ParserChange s t) (h2 : ParserChange t u) : ParserChange s u := by
  obtain ⟨_, _, _, _, rfl, ho1⟩ := h1
  obtain ⟨l, o, ev, out, rfl, ho2⟩ := h2
  exact ⟨l, o, ev, out, rfl, ho1.trans ho2⟩

theorem EventChange.parser {s t : State} (h : EventChange s t) : ParserChange s t := by
  obtain ⟨ev, out, rfl, ho⟩ := h
  exact ⟨s.link, s.objects, ev, out, rfl, ho⟩

theorem ParserChange.ofLink (s : State) (l : Link) : ParserChange s (s.setLink l) :=
  ⟨l, s.objects, s.events, s.output, rfl, .refl _⟩

theorem ParserChange.ofObjects (s : State) (o : ObjectStore) : ParserChange s (s.setObjects o) :=
  ⟨s.link, o, s.events, s.output, rfl, .refl _⟩

variable (s : State)

/-! ## Events and the output state -/

@[simp] theorem raiseFlag_pending (e : Event) : (raiseFlag e s).pending = s.pending := by
  rfl
@[simp] theorem raiseFlag_underway (e : Event) : (raiseFlag e s).underway = s.underway := by
  rfl
@[simp] theorem raiseFlag_link (e : Event) : (raiseFlag e s).link = s.link := by
  rfl
@[simp] theorem raiseFlag_sender (e : Event) : (raiseFlag e s).sender = s.sender := by
  rfl
@[simp] theorem raiseFlag_objects (e : Event) : (raiseFlag e s).objects = s.objects := by
  rfl
@[simp] theorem raiseFlag_palettes (e : Event) : (raiseFlag e s).palettes = s.palettes := by
  rfl
@[simp] theorem raiseFlag_panel (e : Event) : (raiseFlag e s).panel = s.panel := by
  rfl
@[simp] theorem raiseFlag_sched (e : Event) : (raiseFlag e s).sched = s.sched := by
  rfl
@[simp] theorem raiseFlag_draw (e : Event) : (raiseFlag e s).draw = s.draw := by
  rfl
@[simp] theorem raiseFlag_nav (e : Event) : (raiseFlag e s).nav = s.nav := by
  rfl
@[simp] theorem raiseFlag_still (e : Event) : (raiseFlag e s).still = s.still := by
  rfl
@[simp] theorem raiseFlag_raster (e : Event) : (raiseFlag e s).raster = s.raster := by
  rfl
@[simp] theorem raiseFlag_mixer (e : Event) : (raiseFlag e s).mixer = s.mixer := by
  rfl
@[simp] theorem raiseFlag_divider (e : Event) : (raiseFlag e s).divider = s.divider := by
  rfl
@[simp] theorem raiseFlag_output (e : Event) : (raiseFlag e s).output = s.output := by
  rfl
@[simp] theorem raiseFlag_settings (e : Event) : (raiseFlag e s).settings = s.settings := by
  rfl
@[simp] theorem raiseFlag_resetCtl (e : Event) : (raiseFlag e s).resetCtl = s.resetCtl := by
  rfl

/-- The entry into FAULT (R166). -/
theorem enterFault_change : EventChange s (enterFault s) := by
  unfold enterFault
  split
  · rename_i h
    exact ⟨_, _, rfl, .inr ⟨h, rfl⟩⟩
  · exact .refl s

theorem raiseFlag_change (e : Event) : EventChange s (raiseFlag e s) :=
  ⟨s.events.raise e, s.output, rfl, .refl _⟩

/-- A raising changes the Event Unit, and Output Control only by entering FAULT (R166, R172). -/
theorem raise_change (e : Event) : EventChange s (raise e s) := by
  unfold raise
  split
  · exact (raiseFlag_change s e).trans (enterFault_change _)
  · exact raiseFlag_change s e

@[simp] theorem raise_pending (e : Event) : (raise e s).pending = s.pending := by
  obtain ⟨_, _, h, -⟩ := raise_change s e; rw [h]; rfl
@[simp] theorem raise_underway (e : Event) : (raise e s).underway = s.underway := by
  obtain ⟨_, _, h, -⟩ := raise_change s e; rw [h]; rfl
@[simp] theorem raise_link (e : Event) : (raise e s).link = s.link := by
  obtain ⟨_, _, h, -⟩ := raise_change s e; rw [h]; rfl
@[simp] theorem raise_sender (e : Event) : (raise e s).sender = s.sender := by
  obtain ⟨_, _, h, -⟩ := raise_change s e; rw [h]; rfl
@[simp] theorem raise_objects (e : Event) : (raise e s).objects = s.objects := by
  obtain ⟨_, _, h, -⟩ := raise_change s e; rw [h]; rfl
@[simp] theorem raise_palettes (e : Event) : (raise e s).palettes = s.palettes := by
  obtain ⟨_, _, h, -⟩ := raise_change s e; rw [h]; rfl
@[simp] theorem raise_panel (e : Event) : (raise e s).panel = s.panel := by
  obtain ⟨_, _, h, -⟩ := raise_change s e; rw [h]; rfl
@[simp] theorem raise_sched (e : Event) : (raise e s).sched = s.sched := by
  obtain ⟨_, _, h, -⟩ := raise_change s e; rw [h]; rfl
@[simp] theorem raise_draw (e : Event) : (raise e s).draw = s.draw := by
  obtain ⟨_, _, h, -⟩ := raise_change s e; rw [h]; rfl
@[simp] theorem raise_nav (e : Event) : (raise e s).nav = s.nav := by
  obtain ⟨_, _, h, -⟩ := raise_change s e; rw [h]; rfl
@[simp] theorem raise_still (e : Event) : (raise e s).still = s.still := by
  obtain ⟨_, _, h, -⟩ := raise_change s e; rw [h]; rfl
@[simp] theorem raise_raster (e : Event) : (raise e s).raster = s.raster := by
  obtain ⟨_, _, h, -⟩ := raise_change s e; rw [h]; rfl
@[simp] theorem raise_mixer (e : Event) : (raise e s).mixer = s.mixer := by
  obtain ⟨_, _, h, -⟩ := raise_change s e; rw [h]; rfl
@[simp] theorem raise_divider (e : Event) : (raise e s).divider = s.divider := by
  obtain ⟨_, _, h, -⟩ := raise_change s e; rw [h]; rfl
@[simp] theorem raise_settings (e : Event) : (raise e s).settings = s.settings := by
  obtain ⟨_, _, h, -⟩ := raise_change s e; rw [h]; rfl
@[simp] theorem raise_resetCtl (e : Event) : (raise e s).resetCtl = s.resetCtl := by
  obtain ⟨_, _, h, -⟩ := raise_change s e; rw [h]; rfl

/-- A list of raisings does what one can. -/
theorem raiseAll_change : ∀ (es : List Event) (s : State), EventChange s (raiseAll es s)
  | [], s => .refl s
  | e :: es, s => (raise_change s e).trans (raiseAll_change es _)

@[simp] theorem raiseAll_pending (es : List Event) : (raiseAll es s).pending = s.pending := by
  obtain ⟨_, _, h, -⟩ := raiseAll_change es s; rw [h]; rfl
@[simp] theorem raiseAll_underway (es : List Event) : (raiseAll es s).underway = s.underway := by
  obtain ⟨_, _, h, -⟩ := raiseAll_change es s; rw [h]; rfl
@[simp] theorem raiseAll_link (es : List Event) : (raiseAll es s).link = s.link := by
  obtain ⟨_, _, h, -⟩ := raiseAll_change es s; rw [h]; rfl
@[simp] theorem raiseAll_sender (es : List Event) : (raiseAll es s).sender = s.sender := by
  obtain ⟨_, _, h, -⟩ := raiseAll_change es s; rw [h]; rfl
@[simp] theorem raiseAll_objects (es : List Event) : (raiseAll es s).objects = s.objects := by
  obtain ⟨_, _, h, -⟩ := raiseAll_change es s; rw [h]; rfl
@[simp] theorem raiseAll_palettes (es : List Event) : (raiseAll es s).palettes = s.palettes := by
  obtain ⟨_, _, h, -⟩ := raiseAll_change es s; rw [h]; rfl
@[simp] theorem raiseAll_panel (es : List Event) : (raiseAll es s).panel = s.panel := by
  obtain ⟨_, _, h, -⟩ := raiseAll_change es s; rw [h]; rfl
@[simp] theorem raiseAll_sched (es : List Event) : (raiseAll es s).sched = s.sched := by
  obtain ⟨_, _, h, -⟩ := raiseAll_change es s; rw [h]; rfl
@[simp] theorem raiseAll_draw (es : List Event) : (raiseAll es s).draw = s.draw := by
  obtain ⟨_, _, h, -⟩ := raiseAll_change es s; rw [h]; rfl
@[simp] theorem raiseAll_nav (es : List Event) : (raiseAll es s).nav = s.nav := by
  obtain ⟨_, _, h, -⟩ := raiseAll_change es s; rw [h]; rfl
@[simp] theorem raiseAll_still (es : List Event) : (raiseAll es s).still = s.still := by
  obtain ⟨_, _, h, -⟩ := raiseAll_change es s; rw [h]; rfl
@[simp] theorem raiseAll_raster (es : List Event) : (raiseAll es s).raster = s.raster := by
  obtain ⟨_, _, h, -⟩ := raiseAll_change es s; rw [h]; rfl
@[simp] theorem raiseAll_mixer (es : List Event) : (raiseAll es s).mixer = s.mixer := by
  obtain ⟨_, _, h, -⟩ := raiseAll_change es s; rw [h]; rfl
@[simp] theorem raiseAll_divider (es : List Event) : (raiseAll es s).divider = s.divider := by
  obtain ⟨_, _, h, -⟩ := raiseAll_change es s; rw [h]; rfl
@[simp] theorem raiseAll_settings (es : List Event) : (raiseAll es s).settings = s.settings := by
  obtain ⟨_, _, h, -⟩ := raiseAll_change es s; rw [h]; rfl
@[simp] theorem raiseAll_resetCtl (es : List Event) : (raiseAll es s).resetCtl = s.resetCtl := by
  obtain ⟨_, _, h, -⟩ := raiseAll_change es s; rw [h]; rfl

/-- A change of the output state changes the Event Unit and the output state only (R159). -/
theorem setOutputState_form (o : OutputState) :
    ∃ ev, setOutputState o s = (s.setEvents ev).setOutput { s.output with state := o } := by
  unfold setOutputState
  split
  · rename_i h
    exact ⟨s.events, by subst h; rfl⟩
  · exact ⟨_, rfl⟩

@[simp] theorem setOutputState_output (o : OutputState) :
    (setOutputState o s).output = { s.output with state := o } := by
  obtain ⟨_, h⟩ := setOutputState_form s o; rw [h]; rfl
@[simp] theorem setOutputState_pending (o : OutputState) : (setOutputState o s).pending = s.pending := by
  obtain ⟨_, h⟩ := setOutputState_form s o; rw [h]; rfl
@[simp] theorem setOutputState_underway (o : OutputState) : (setOutputState o s).underway = s.underway := by
  obtain ⟨_, h⟩ := setOutputState_form s o; rw [h]; rfl
@[simp] theorem setOutputState_link (o : OutputState) : (setOutputState o s).link = s.link := by
  obtain ⟨_, h⟩ := setOutputState_form s o; rw [h]; rfl
@[simp] theorem setOutputState_sender (o : OutputState) : (setOutputState o s).sender = s.sender := by
  obtain ⟨_, h⟩ := setOutputState_form s o; rw [h]; rfl
@[simp] theorem setOutputState_objects (o : OutputState) : (setOutputState o s).objects = s.objects := by
  obtain ⟨_, h⟩ := setOutputState_form s o; rw [h]; rfl
@[simp] theorem setOutputState_palettes (o : OutputState) : (setOutputState o s).palettes = s.palettes := by
  obtain ⟨_, h⟩ := setOutputState_form s o; rw [h]; rfl
@[simp] theorem setOutputState_panel (o : OutputState) : (setOutputState o s).panel = s.panel := by
  obtain ⟨_, h⟩ := setOutputState_form s o; rw [h]; rfl
@[simp] theorem setOutputState_sched (o : OutputState) : (setOutputState o s).sched = s.sched := by
  obtain ⟨_, h⟩ := setOutputState_form s o; rw [h]; rfl
@[simp] theorem setOutputState_draw (o : OutputState) : (setOutputState o s).draw = s.draw := by
  obtain ⟨_, h⟩ := setOutputState_form s o; rw [h]; rfl
@[simp] theorem setOutputState_nav (o : OutputState) : (setOutputState o s).nav = s.nav := by
  obtain ⟨_, h⟩ := setOutputState_form s o; rw [h]; rfl
@[simp] theorem setOutputState_still (o : OutputState) : (setOutputState o s).still = s.still := by
  obtain ⟨_, h⟩ := setOutputState_form s o; rw [h]; rfl
@[simp] theorem setOutputState_raster (o : OutputState) : (setOutputState o s).raster = s.raster := by
  obtain ⟨_, h⟩ := setOutputState_form s o; rw [h]; rfl
@[simp] theorem setOutputState_mixer (o : OutputState) : (setOutputState o s).mixer = s.mixer := by
  obtain ⟨_, h⟩ := setOutputState_form s o; rw [h]; rfl
@[simp] theorem setOutputState_divider (o : OutputState) : (setOutputState o s).divider = s.divider := by
  obtain ⟨_, h⟩ := setOutputState_form s o; rw [h]; rfl
@[simp] theorem setOutputState_settings (o : OutputState) : (setOutputState o s).settings = s.settings := by
  obtain ⟨_, h⟩ := setOutputState_form s o; rw [h]; rfl
@[simp] theorem setOutputState_resetCtl (o : OutputState) : (setOutputState o s).resetCtl = s.resetCtl := by
  obtain ⟨_, h⟩ := setOutputState_form s o; rw [h]; rfl

/-- A raising sets no other flag and clears none. -/
theorem Events.raise_flags (ev : Events) (e : Event) : (ev.raise e).flags = ev.flags ||| e.bit := by
  have key : ∀ e : Event, e.bit = BitVec.twoPow 16 e.num := by intro e; cases e <;> decide
  unfold Events.raise
  split
  · rename_i h
    rw [key]
    ext i hi
    simp only [BitVec.getElem_or, BitVec.getElem_twoPow]
    by_cases hie : e.num = i
    · subst hie
      simp [← BitVec.getLsbD_eq_getElem, h]
    · simp [Ne.symm hie]
  · rfl

/-- A flag that is set stays set when an event is raised. -/
theorem raiseFlag_keeps {e e' : Event} {s : State} (h : Flagged e' s) : Flagged e' (raiseFlag e s) := by
  simp only [Flagged, raiseFlag, State.setEvents_events, Events.raise_flags, BitVec.getLsbD_or] at h ⊢
  simp [h]

/-- A raised event's flag is set. -/
theorem raiseFlag_sets (e : Event) : Flagged e (raiseFlag e s) := by
  have key : ∀ e : Event, e.bit.getLsbD e.num = true := by intro e; cases e <;> decide
  simp only [Flagged, raiseFlag, State.setEvents_events, Events.raise_flags, BitVec.getLsbD_or, key, Bool.or_true]

theorem enterFault_keeps {e : Event} {s : State} (h : Flagged e s) : Flagged e (enterFault s) := by
  unfold enterFault
  split
  · exact raiseFlag_keeps (raiseFlag_keeps h)
  · exact h

theorem raise_keeps {e e' : Event} {s : State} (h : Flagged e' s) : Flagged e' (raise e s) := by
  unfold raise
  split
  · exact enterFault_keeps (raiseFlag_keeps h)
  · exact raiseFlag_keeps h

theorem raise_sets (e : Event) : Flagged e (raise e s) := by
  unfold raise
  split
  · exact enterFault_keeps (raiseFlag_sets s e)
  · exact raiseFlag_sets s e

theorem raiseAll_keeps {e : Event} (es : List Event) {s : State} (h : Flagged e s) : Flagged e (raiseAll es s) := by
  induction es generalizing s with
  | nil => exact h
  | cons e' es ih => exact ih (raise_keeps h)

theorem raiseAll_sets {e : Event} {es : List Event} (s : State) (h : e ∈ es) : Flagged e (raiseAll es s) := by
  induction es generalizing s with
  | nil => cases h
  | cons e' es ih =>
    obtain rfl | h := List.mem_cons.1 h
    · exact raiseAll_keeps es (raise_sets s _)
    · exact ih (raise e' s) h

/-! ## Parsers -/

@[simp] theorem setChannel_pending (ch : Channel) (c : ChannelState) : (setChannel ch c s).pending = s.pending := by
  rfl
@[simp] theorem setChannel_underway (ch : Channel) (c : ChannelState) : (setChannel ch c s).underway = s.underway := by
  rfl
@[simp] theorem setChannel_sender (ch : Channel) (c : ChannelState) : (setChannel ch c s).sender = s.sender := by
  rfl
@[simp] theorem setChannel_objects (ch : Channel) (c : ChannelState) : (setChannel ch c s).objects = s.objects := by
  rfl
@[simp] theorem setChannel_palettes (ch : Channel) (c : ChannelState) : (setChannel ch c s).palettes = s.palettes := by
  rfl
@[simp] theorem setChannel_panel (ch : Channel) (c : ChannelState) : (setChannel ch c s).panel = s.panel := by
  rfl
@[simp] theorem setChannel_sched (ch : Channel) (c : ChannelState) : (setChannel ch c s).sched = s.sched := by
  rfl
@[simp] theorem setChannel_draw (ch : Channel) (c : ChannelState) : (setChannel ch c s).draw = s.draw := by
  rfl
@[simp] theorem setChannel_nav (ch : Channel) (c : ChannelState) : (setChannel ch c s).nav = s.nav := by
  rfl
@[simp] theorem setChannel_still (ch : Channel) (c : ChannelState) : (setChannel ch c s).still = s.still := by
  rfl
@[simp] theorem setChannel_raster (ch : Channel) (c : ChannelState) : (setChannel ch c s).raster = s.raster := by
  rfl
@[simp] theorem setChannel_mixer (ch : Channel) (c : ChannelState) : (setChannel ch c s).mixer = s.mixer := by
  rfl
@[simp] theorem setChannel_divider (ch : Channel) (c : ChannelState) : (setChannel ch c s).divider = s.divider := by
  rfl
@[simp] theorem setChannel_output (ch : Channel) (c : ChannelState) : (setChannel ch c s).output = s.output := by
  rfl
@[simp] theorem setChannel_events (ch : Channel) (c : ChannelState) : (setChannel ch c s).events = s.events := by
  rfl
@[simp] theorem setChannel_settings (ch : Channel) (c : ChannelState) : (setChannel ch c s).settings = s.settings := by
  rfl
@[simp] theorem setChannel_resetCtl (ch : Channel) (c : ChannelState) : (setChannel ch c s).resetCtl = s.resetCtl := by
  rfl

theorem dropHead_form (ch : Channel) : ∃ l, dropHead ch s = s.setLink l := by
  simp only [dropHead]
  split
  · exact ⟨s.link, rfl⟩
  · exact ⟨_, rfl⟩

@[simp] theorem dropHead_pending (ch : Channel) : (dropHead ch s).pending = s.pending := by
  obtain ⟨_, h⟩ := dropHead_form s ch; rw [h]; rfl
@[simp] theorem dropHead_underway (ch : Channel) : (dropHead ch s).underway = s.underway := by
  obtain ⟨_, h⟩ := dropHead_form s ch; rw [h]; rfl
@[simp] theorem dropHead_sender (ch : Channel) : (dropHead ch s).sender = s.sender := by
  obtain ⟨_, h⟩ := dropHead_form s ch; rw [h]; rfl
@[simp] theorem dropHead_objects (ch : Channel) : (dropHead ch s).objects = s.objects := by
  obtain ⟨_, h⟩ := dropHead_form s ch; rw [h]; rfl
@[simp] theorem dropHead_palettes (ch : Channel) : (dropHead ch s).palettes = s.palettes := by
  obtain ⟨_, h⟩ := dropHead_form s ch; rw [h]; rfl
@[simp] theorem dropHead_panel (ch : Channel) : (dropHead ch s).panel = s.panel := by
  obtain ⟨_, h⟩ := dropHead_form s ch; rw [h]; rfl
@[simp] theorem dropHead_sched (ch : Channel) : (dropHead ch s).sched = s.sched := by
  obtain ⟨_, h⟩ := dropHead_form s ch; rw [h]; rfl
@[simp] theorem dropHead_draw (ch : Channel) : (dropHead ch s).draw = s.draw := by
  obtain ⟨_, h⟩ := dropHead_form s ch; rw [h]; rfl
@[simp] theorem dropHead_nav (ch : Channel) : (dropHead ch s).nav = s.nav := by
  obtain ⟨_, h⟩ := dropHead_form s ch; rw [h]; rfl
@[simp] theorem dropHead_still (ch : Channel) : (dropHead ch s).still = s.still := by
  obtain ⟨_, h⟩ := dropHead_form s ch; rw [h]; rfl
@[simp] theorem dropHead_raster (ch : Channel) : (dropHead ch s).raster = s.raster := by
  obtain ⟨_, h⟩ := dropHead_form s ch; rw [h]; rfl
@[simp] theorem dropHead_mixer (ch : Channel) : (dropHead ch s).mixer = s.mixer := by
  obtain ⟨_, h⟩ := dropHead_form s ch; rw [h]; rfl
@[simp] theorem dropHead_divider (ch : Channel) : (dropHead ch s).divider = s.divider := by
  obtain ⟨_, h⟩ := dropHead_form s ch; rw [h]; rfl
@[simp] theorem dropHead_output (ch : Channel) : (dropHead ch s).output = s.output := by
  obtain ⟨_, h⟩ := dropHead_form s ch; rw [h]; rfl
@[simp] theorem dropHead_events (ch : Channel) : (dropHead ch s).events = s.events := by
  obtain ⟨_, h⟩ := dropHead_form s ch; rw [h]; rfl
@[simp] theorem dropHead_settings (ch : Channel) : (dropHead ch s).settings = s.settings := by
  obtain ⟨_, h⟩ := dropHead_form s ch; rw [h]; rfl
@[simp] theorem dropHead_resetCtl (ch : Channel) : (dropHead ch s).resetCtl = s.resetCtl := by
  obtain ⟨_, h⟩ := dropHead_form s ch; rw [h]; rfl

@[simp] theorem setHold_pending (ch : Channel) (h : Option HoldReason) : (setHold ch h s).pending = s.pending := by
  rfl
@[simp] theorem setHold_underway (ch : Channel) (h : Option HoldReason) : (setHold ch h s).underway = s.underway := by
  rfl
@[simp] theorem setHold_sender (ch : Channel) (h : Option HoldReason) : (setHold ch h s).sender = s.sender := by
  rfl
@[simp] theorem setHold_objects (ch : Channel) (h : Option HoldReason) : (setHold ch h s).objects = s.objects := by
  rfl
@[simp] theorem setHold_palettes (ch : Channel) (h : Option HoldReason) : (setHold ch h s).palettes = s.palettes := by
  rfl
@[simp] theorem setHold_panel (ch : Channel) (h : Option HoldReason) : (setHold ch h s).panel = s.panel := by
  rfl
@[simp] theorem setHold_sched (ch : Channel) (h : Option HoldReason) : (setHold ch h s).sched = s.sched := by
  rfl
@[simp] theorem setHold_draw (ch : Channel) (h : Option HoldReason) : (setHold ch h s).draw = s.draw := by
  rfl
@[simp] theorem setHold_nav (ch : Channel) (h : Option HoldReason) : (setHold ch h s).nav = s.nav := by
  rfl
@[simp] theorem setHold_still (ch : Channel) (h : Option HoldReason) : (setHold ch h s).still = s.still := by
  rfl
@[simp] theorem setHold_raster (ch : Channel) (h : Option HoldReason) : (setHold ch h s).raster = s.raster := by
  rfl
@[simp] theorem setHold_mixer (ch : Channel) (h : Option HoldReason) : (setHold ch h s).mixer = s.mixer := by
  rfl
@[simp] theorem setHold_divider (ch : Channel) (h : Option HoldReason) : (setHold ch h s).divider = s.divider := by
  rfl
@[simp] theorem setHold_output (ch : Channel) (h : Option HoldReason) : (setHold ch h s).output = s.output := by
  rfl
@[simp] theorem setHold_events (ch : Channel) (h : Option HoldReason) : (setHold ch h s).events = s.events := by
  rfl
@[simp] theorem setHold_settings (ch : Channel) (h : Option HoldReason) : (setHold ch h s).settings = s.settings := by
  rfl
@[simp] theorem setHold_resetCtl (ch : Channel) (h : Option HoldReason) : (setHold ch h s).resetCtl = s.resetCtl := by
  rfl

/-- What the discard of a bad segment can change (R11). -/
theorem discardBad_change (ch : Channel) (g : Segment) : ParserChange s (discardBad ch g s) := by
  obtain ⟨l, hl⟩ := dropHead_form s ch
  have base : ParserChange s (raise .segBad (dropHead ch s)) := by
    rw [hl]
    exact (ParserChange.ofLink s l).trans (raise_change _ _).parser
  simp only [discardBad]
  split
  · exact base
  · split
    · split
      · exact base.trans ((ParserChange.ofObjects _ _).trans (raiseAll_change _ _).parser)
      · exact base
    · exact base

theorem setHold_change (ch : Channel) (h : Option HoldReason) : ParserChange s (setHold ch h s) := .ofLink s _

theorem dropHead_change (ch : Channel) : ParserChange s (dropHead ch s) := by
  obtain ⟨l, hl⟩ := dropHead_form s ch
  rw [hl]
  exact .ofLink s l

/-- What one parser can change. -/
theorem runParser_change (ch : Channel) : ∀ (n : Nat) (s : State), ParserChange s (runParser ch n s)
  | 0, s => .refl s
  | n + 1, s => by
    unfold runParser
    split
    · exact .refl s
    · split
      · exact setHold_change s ch _
      · split
        · exact (discardBad_change s ch _).trans (runParser_change ch n _)
        · split
          · exact (dropHead_change s ch).trans (runParser_change ch n _)
          · exact setHold_change s ch _

/-- What both parsers can change (R9 to R15). -/
theorem parsersGoOn_change : ParserChange s (parsersGoOn s) :=
  ((runParser_change _ _ _).trans (runParser_change _ _ _)).trans (runParser_change _ _ _)

@[simp] theorem parsersGoOn_pending : (parsersGoOn s).pending = s.pending := by
  obtain ⟨_, _, _, _, h, -⟩ := parsersGoOn_change s; rw [h]; rfl
@[simp] theorem parsersGoOn_underway : (parsersGoOn s).underway = s.underway := by
  obtain ⟨_, _, _, _, h, -⟩ := parsersGoOn_change s; rw [h]; rfl
@[simp] theorem parsersGoOn_sender : (parsersGoOn s).sender = s.sender := by
  obtain ⟨_, _, _, _, h, -⟩ := parsersGoOn_change s; rw [h]; rfl
@[simp] theorem parsersGoOn_palettes : (parsersGoOn s).palettes = s.palettes := by
  obtain ⟨_, _, _, _, h, -⟩ := parsersGoOn_change s; rw [h]; rfl
@[simp] theorem parsersGoOn_panel : (parsersGoOn s).panel = s.panel := by
  obtain ⟨_, _, _, _, h, -⟩ := parsersGoOn_change s; rw [h]; rfl
@[simp] theorem parsersGoOn_sched : (parsersGoOn s).sched = s.sched := by
  obtain ⟨_, _, _, _, h, -⟩ := parsersGoOn_change s; rw [h]; rfl
@[simp] theorem parsersGoOn_draw : (parsersGoOn s).draw = s.draw := by
  obtain ⟨_, _, _, _, h, -⟩ := parsersGoOn_change s; rw [h]; rfl
@[simp] theorem parsersGoOn_nav : (parsersGoOn s).nav = s.nav := by
  obtain ⟨_, _, _, _, h, -⟩ := parsersGoOn_change s; rw [h]; rfl
@[simp] theorem parsersGoOn_still : (parsersGoOn s).still = s.still := by
  obtain ⟨_, _, _, _, h, -⟩ := parsersGoOn_change s; rw [h]; rfl
@[simp] theorem parsersGoOn_raster : (parsersGoOn s).raster = s.raster := by
  obtain ⟨_, _, _, _, h, -⟩ := parsersGoOn_change s; rw [h]; rfl
@[simp] theorem parsersGoOn_mixer : (parsersGoOn s).mixer = s.mixer := by
  obtain ⟨_, _, _, _, h, -⟩ := parsersGoOn_change s; rw [h]; rfl
@[simp] theorem parsersGoOn_divider : (parsersGoOn s).divider = s.divider := by
  obtain ⟨_, _, _, _, h, -⟩ := parsersGoOn_change s; rw [h]; rfl
@[simp] theorem parsersGoOn_settings : (parsersGoOn s).settings = s.settings := by
  obtain ⟨_, _, _, _, h, -⟩ := parsersGoOn_change s; rw [h]; rfl
@[simp] theorem parsersGoOn_resetCtl : (parsersGoOn s).resetCtl = s.resetCtl := by
  obtain ⟨_, _, _, _, h, -⟩ := parsersGoOn_change s; rw [h]; rfl

/-! ## PATCH requests -/

/-- A PATCH request changes the Draw Queue or the Update Backlog only (R82, R118). -/
theorem requestPatch_form (b : ButtonId) : ∃ q bl, requestPatch b s =
    (s.setDraw { s.draw with queue := q }).setSched { s.sched with backlog := bl } := by
  unfold requestPatch
  split
  · exact ⟨s.draw.queue, s.sched.backlog, rfl⟩
  · split
    · exact ⟨s.draw.queue ++ [.patch b], s.sched.backlog, rfl⟩
    · exact ⟨s.draw.queue, s.sched.backlog ++ [b], rfl⟩

theorem requestLook_form (b : ButtonId) : ∃ q bl, requestLook b s =
    (s.setDraw { s.draw with queue := q }).setSched { s.sched with backlog := bl } := by
  unfold requestLook
  split
  · split
    · exact requestPatch_form s b
    · exact ⟨s.draw.queue, s.sched.backlog, rfl⟩
  · exact ⟨s.draw.queue, s.sched.backlog, rfl⟩

@[simp] theorem requestLook_pending (b : ButtonId) : (requestLook b s).pending = s.pending := by
  obtain ⟨_, _, h⟩ := requestLook_form s b; rw [h]; rfl
@[simp] theorem requestLook_underway (b : ButtonId) : (requestLook b s).underway = s.underway := by
  obtain ⟨_, _, h⟩ := requestLook_form s b; rw [h]; rfl
@[simp] theorem requestLook_link (b : ButtonId) : (requestLook b s).link = s.link := by
  obtain ⟨_, _, h⟩ := requestLook_form s b; rw [h]; rfl
@[simp] theorem requestLook_sender (b : ButtonId) : (requestLook b s).sender = s.sender := by
  obtain ⟨_, _, h⟩ := requestLook_form s b; rw [h]; rfl
@[simp] theorem requestLook_objects (b : ButtonId) : (requestLook b s).objects = s.objects := by
  obtain ⟨_, _, h⟩ := requestLook_form s b; rw [h]; rfl
@[simp] theorem requestLook_palettes (b : ButtonId) : (requestLook b s).palettes = s.palettes := by
  obtain ⟨_, _, h⟩ := requestLook_form s b; rw [h]; rfl
@[simp] theorem requestLook_panel (b : ButtonId) : (requestLook b s).panel = s.panel := by
  obtain ⟨_, _, h⟩ := requestLook_form s b; rw [h]; rfl
@[simp] theorem requestLook_nav (b : ButtonId) : (requestLook b s).nav = s.nav := by
  obtain ⟨_, _, h⟩ := requestLook_form s b; rw [h]; rfl
@[simp] theorem requestLook_still (b : ButtonId) : (requestLook b s).still = s.still := by
  obtain ⟨_, _, h⟩ := requestLook_form s b; rw [h]; rfl
@[simp] theorem requestLook_raster (b : ButtonId) : (requestLook b s).raster = s.raster := by
  obtain ⟨_, _, h⟩ := requestLook_form s b; rw [h]; rfl
@[simp] theorem requestLook_mixer (b : ButtonId) : (requestLook b s).mixer = s.mixer := by
  obtain ⟨_, _, h⟩ := requestLook_form s b; rw [h]; rfl
@[simp] theorem requestLook_divider (b : ButtonId) : (requestLook b s).divider = s.divider := by
  obtain ⟨_, _, h⟩ := requestLook_form s b; rw [h]; rfl
@[simp] theorem requestLook_output (b : ButtonId) : (requestLook b s).output = s.output := by
  obtain ⟨_, _, h⟩ := requestLook_form s b; rw [h]; rfl
@[simp] theorem requestLook_events (b : ButtonId) : (requestLook b s).events = s.events := by
  obtain ⟨_, _, h⟩ := requestLook_form s b; rw [h]; rfl
@[simp] theorem requestLook_settings (b : ButtonId) : (requestLook b s).settings = s.settings := by
  obtain ⟨_, _, h⟩ := requestLook_form s b; rw [h]; rfl
@[simp] theorem requestLook_resetCtl (b : ButtonId) : (requestLook b s).resetCtl = s.resetCtl := by
  obtain ⟨_, _, h⟩ := requestLook_form s b; rw [h]; rfl

/-! ## The Update Backlog -/

/-- A move changes the Draw Queue and the Update Backlog only (R67). -/
theorem moveBacklog_form : ∃ q bl, moveBacklog s =
    (s.setDraw { s.draw with queue := q }).setSched { s.sched with backlog := bl } := by
  unfold moveBacklog
  split
  · exact ⟨s.draw.queue, s.sched.backlog, rfl⟩
  · rename_i b rest _
    split
    · dsimp only
      split
      · exact ⟨s.draw.queue, rest, rfl⟩
      · exact ⟨s.draw.queue ++ [.patch b], rest, rfl⟩
    · exact ⟨s.draw.queue, s.sched.backlog, rfl⟩

theorem drainBacklog_form : ∀ (n : Nat) (s : State), ∃ q bl, drainBacklog n s =
    (s.setDraw { s.draw with queue := q }).setSched { s.sched with backlog := bl }
  | 0, s => ⟨s.draw.queue, s.sched.backlog, rfl⟩
  | n + 1, s => by
    unfold drainBacklog
    split
    · obtain ⟨q, bl, hm⟩ := moveBacklog_form s
      obtain ⟨q', bl', hd⟩ := drainBacklog_form n (moveBacklog s)
      exact ⟨q', bl', by rw [hd, hm]; rfl⟩
    · exact ⟨s.draw.queue, s.sched.backlog, rfl⟩

/-- Where no id can move, the room that remains is the room there is. -/
theorem roomRemains_of_not_due {s : State} (h : backlogDue s = false) : roomRemains s = s.draw.room 1 := by
  unfold roomRemains
  cases s.sched.backlog.length <;> simp [drainBacklog, h]

/-- A move that is due leaves the room that remains as it is: the place was the backlog's already (R82). -/
theorem roomRemains_moveBacklog {s : State} (h : backlogDue s = true) : roomRemains (moveBacklog s) = roomRemains s := by
  obtain ⟨b, rest, hb⟩ : ∃ b rest, s.sched.backlog = b :: rest := by
    cases hb : s.sched.backlog with
    | nil => simp [backlogDue, hb] at h
    | cons b rest => exact ⟨b, rest, rfl⟩
  have hl : (moveBacklog s).sched.backlog = rest := by
    have hr : s.draw.room 1 = true := by simp_all [backlogDue]
    simp only [moveBacklog, hb, hr, if_true]
    split <;> rfl
  simp only [roomRemains, hl, hb, List.length_cons, drainBacklog, h, if_true]

/-- A predicate that holds of one index more, counted. -/
theorem length_filter_finRange_succ {n : Nat} {p q : Fin n → Bool} (b : Fin n) (hb : p b = true)
    (h : ∀ c, q c = (p c && decide (c ≠ b))) :
    ((List.finRange n).filter p).length = ((List.finRange n).filter q).length + 1 := by
  have hq : (List.finRange n).filter q = ((List.finRange n).filter p).erase b := by
    rw [List.Nodup.erase_eq_filter ((List.nodup_finRange n).filter p), List.filter_filter]
    congr 1
    funext c
    rw [h c, Bool.and_comm]
    by_cases hc : c = b <;> simp [hc]
  have hm : b ∈ (List.finRange n).filter p := by simp [hb, List.mem_finRange]
  rw [hq, List.length_erase_of_mem hm]
  have := List.length_pos_of_mem hm
  omega

/-- The room that remains, counted: the queued jobs and the buttons of the backlog that take a place are fewer than the Draw
Queue holds (R67, R82). -/
theorem roomRemains_iff : roomRemains s = true ↔ s.draw.queue.length + (waitingIds s).length < Config.drawQueueMax := by
  generalize hn : s.sched.backlog = l
  induction l generalizing s with
  | nil =>
    have hw : waitingIds s = [] := List.filter_eq_nil_iff.mpr fun c _ => by simp [hn]
    simp only [roomRemains, hw, hn, List.length_nil, drainBacklog, Draw.room, decide_eq_true_eq, Nat.add_zero]
    exact Nat.add_one_le_iff
  | cons b rest ih =>
    by_cases hr : s.draw.room 1 = true
    · have hd : backlogDue s = true := by simp [backlogDue, hn, hr]
      rw [← roomRemains_moveBacklog hd]
      by_cases hp : s.draw.hasPatch b = true
      · have hm : moveBacklog s = s.setSched { s.sched with backlog := rest } := by
          simp [moveBacklog, hn, hr, hp]
        have hw : waitingIds (s.setSched { s.sched with backlog := rest }) = waitingIds s := by
          refine List.filter_congr fun c _ => ?_
          by_cases hc : c = b <;> simp [hn, hc, hp]
        rw [hm, ih _ rfl, hw]
        simp
      · have hm : moveBacklog s = (s.setSched { s.sched with backlog := rest }).setDraw
            { s.draw with queue := s.draw.queue ++ [.patch b] } := by simp [moveBacklog, hn, hr, hp]
        have hw : (waitingIds s).length = (waitingIds ((s.setSched { s.sched with backlog := rest }).setDraw
            { s.draw with queue := s.draw.queue ++ [.patch b] })).length + 1 := by
          refine length_filter_finRange_succ b (by simp [hn, hp]) fun c => ?_
          by_cases hc : c = b
          · simp [Draw.hasPatch, hc]
          · simp [Draw.hasPatch, hn, hc, Ne.symm hc]
        rw [hm, ih _ rfl, hw]
        simp only [State.setDraw_draw, List.length_append, List.length_singleton]
        omega
    · have hd : backlogDue s = false := by simp [backlogDue, hr]
      rw [roomRemains_of_not_due hd]
      simp only [Draw.room, decide_eq_true_eq] at hr ⊢
      omega

/-! ## The frame of a command -/

/-- Nothing is settled before a command in a Ready state. -/
theorem settle_of_ready {s : State} (h : Ready s) : settle s = s := by
  obtain ⟨hu, hb, -⟩ := h
  have hd : ∀ n, drainBacklog n s = s := by
    intro n
    cases n with
    | zero => rfl
    | succ n => simp [drainBacklog, hb]
  simp only [settle, finishUnderway, hu, hd]

/-- With no event under way, the drain condition is tested and the parsers go on after a command. -/
theorem rest_of_nothing {s : State} (h : s.underway = .nothing) : rest s = parsersGoOn (endDrain s) := by simp [rest, h]

/-- Once tested, the drain condition has nothing more to end: STANDBY has been entered or the drain goes on (R162, R164). -/
theorem endDrain_endDrain (s : State) : endDrain (endDrain s) = endDrain s := by
  by_cases h : s.output.state = .draining ∧ drainDone s = true
  · have hs : (endDrain s).output.state ≠ .draining := by
      rw [endDrain, if_pos h, enterStandby]
      split <;> simp
    rw [endDrain, if_neg fun k => hs k.1]
  · have hs : endDrain s = s := if_neg h
    rw [hs, hs]

/-- With nothing held, a frame start closes with its latch and the test of the drain condition (R145, R162). -/
theorem closeFrame_nil (s : State) :
    closeFrame [] s = endDrain ((s.setMixer { frame := some (latchOf s) }).setUnderway .nothing) := rfl

/-- A drain that is not due to end goes on. -/
theorem endDrain_of_not {s : State} (h : s.output.state = .draining → drainDone s = false) : endDrain s = s := by
  unfold endDrain
  split
  · rename_i hd
    simp [h hd.1] at hd
  · rfl

/-- The drain condition reads the engine, the still buffers and the decoder only (R162). -/
theorem drainDone_congr {s t : State} (hd : t.draw.isIdle = s.draw.isIdle)
    (hs : t.still.captureInFlight = s.still.captureInFlight) (ho : t.objects.decoder = s.objects.decoder) :
    drainDone t = drainDone s := by simp [drainDone, hd, hs, ho]

/-- With an event under way, nothing follows a command. -/
theorem rest_of_underway {s : State} (h : s.underway ≠ .nothing) : rest s = s := by
  unfold rest
  split
  · contradiction
  · rfl
  · rfl
  · rfl

/-- A command in a Ready state whose effect leaves no event under way. -/
theorem act_of_ready {s : State} (h : Ready s) {f : State → State} (hf : (f s).underway = .nothing) :
    act f s = .next (parsersGoOn (endDrain (f s))) := by rw [act, settle_of_ready h, rest_of_nothing hf]

end Sys2Proof.Machine
end

