-- ==== Sys2Proof/WellFormed.lean ====
section
/-!
DEFINITION. Which commands are well formed: the checks on a command's operands that do not depend on the state. A
command that fails one names no event of the part; executing it changes nothing but what any command first settles.
-/

namespace Sys2Proof

/-- The largest Length of any channel, 2038 (R2): no accepted segment has a longer payload. -/
def maxPayload : Nat := 2038

/-- No change is listed twice. -/
def heldWF (held : List FrameChange) : Bool := held.Nodup

/-- Well-formedness of a command's operands. -/
def Instr.wf : Instr → Bool
  | .segmentArrivalComplete payload _ => payload.length ≤ maxPayload
  | .headerCutShort received => 1 ≤ received && received ≤ 7
  | .strayBytes count => 1 ≤ count
  | .resetCompletion held => heldWF held
  | .videoInFrameStart _ held => heldWF held
  | .internalFrameStart held => heldWF held
  | .lossTimerExpiry held => heldWF held
  | .wakeCompletion held => heldWF held
  | .segmentHeader _ | .arrivalCutShort | .sceneOpen | .palette | .objectFirstFragment | .objectLaterFragment
  | .buttons | .layout | .cancel | .key | .serveDirectionalKey | .serveOkKey | .serveNumberKey | .serveUnusedKey
  | .holdEnd | .planeReqLive | .planeReqFreeze | .planeReqOff | .planeReqStandby | .restart | .eventEnable
  | .globalEnable | .severity | .tapACode | .tapBCode | .tapEnable | .activateHold | .lateLimit | .lead
  | .sceneProtect | .panelProtect | .internalWidth | .internalHeight | .internalRate | .sceneOriginX | .sceneOriginY
  | .borderColour | .panelColour | .panelColour0 | .unknownSetting | .query | .clearEvents | .capture | .showSource
  | .pan | .panelFill | .panelBitmap | .reset | .powerOn | .resetNRelease | .reportPick | .reportTransmitted _
  | .returnToLocked | .tapATick | .tapBTick | .fadeEnd | .panEnd | .panJumpToEnd | .paletteGoesLive _
  | .pendingTargetEntry | .standbyEntry | .layoutSubmission | .flip | .updateApplication | .patchFlip | .backlogMove
  | .jobStart | .jobCompletion | .resyncCompletion | .decodeStart | .decodeCompletion | .copyingPhaseStart
  | .captureCompletion | .transitionCompletion | .setRefused | .droppedSegmentEnd => true

end Sys2Proof
end

