-- ==== Sys2Proof/Tests/Slice0.lean ====
section
/-!
SUPPORT. The model's own tests: the refusals of WellFormed, the spec's worked examples, a step or two of each family, and,
for every obligation with hypotheses, a witness that meets them, clause by clause where there are several. Expected values
are the spec's; the comment names the place.
-/

namespace Sys2Proof.Tests
set_option Elab.async false
open Sys2Proof Sys2Proof.Machine

/-! ## WellFormed: one ill-formed term for each check -/

theorem test_wf_payload : (Instr.segmentArrivalComplete (List.replicate 2039 0) 0).wf = false := by decide +kernel
theorem test_wf_header_low : (Instr.headerCutShort 0).wf = false := by decide
theorem test_wf_header_high : (Instr.headerCutShort 8).wf = false := by decide
theorem test_wf_stray : (Instr.strayBytes 0).wf = false := by decide
theorem test_wf_held : (Instr.resetCompletion [.flip, .flip]).wf = false ∧
    (Instr.videoInFrameStart [] [.tapA, .tapB, .tapA]).wf = false ∧
    (Instr.internalFrameStart [.palette 3, .palette 3]).wf = false ∧
    (Instr.lossTimerExpiry [.update, .update]).wf = false ∧ (Instr.wakeCompletion [.holdEnd, .holdEnd]).wf = false := by
  decide

/-! ## Helpers -/

/-- A segment with its Length and CRC computed. -/
def seg (kind flags target tag seq : Nat) (p : List Nat) : Segment :=
  let payload := p.map byteOf
  let header : Header :=
    ⟨byteOf kind, byteOf flags, BitVec.ofNat 16 payload.length, BitVec.ofNat 16 target, byteOf tag, byteOf seq⟩
  { header, payload, crc := crc16 (headerBytes header ++ payload) }

/-- Two bytes of a payload. -/
def w (n : Nat) : List Nat := [n / 256, n % 256]

/-- The part in OFF, out of its reset, with the discard window closed. -/
def up : State :=
  { State.reset with
    link := { resetLink with window := false }
    resetCtl := { cause := .powerOn, phase := .complete } }

/-- The part with one stored segment. -/
def stored (ch : Channel) (g : Segment) (s : State) : State := setChannel ch { resetChannel with queue := [g] } s

/-- The part in another output state. -/
def inState (o : OutputState) (s : State) : State := s.setOutput { s.output with state := o }

/-- The state a command leaves. -/
def after (c : Instr) (s : State) : State :=
  match exec c s with
  | .next t => t
  | .fault _ => s
  | .refused _ => s

/-- The states after several commands. -/
def run : List Instr → State → State
  | [], s => s
  | c :: cs, s => run cs (after c s)

/-! ## The link: spec examples (12.1, 1.4.1, 1.7.1) -/

theorem test_crc_digits : crc16 [0x31, 0x32, 0x33, 0x34, 0x35, 0x36, 0x37, 0x38, 0x39] = 0x29B1 := by decide +kernel

/-- 1.4.1: lengths 2038, 1000, 118 and 1400 take 32, 16, 2 and 23 units. -/
theorem test_units : unitsOf ⟨3, 1, 2038, 0, 0, 0⟩ = 32 ∧ unitsOf ⟨3, 0, 1000, 0, 0, 0⟩ = 16 ∧
    unitsOf ⟨5, 0, 118, 0, 0, 0⟩ = 2 ∧ unitsOf ⟨2, 0, 1400, 0, 0, 0⟩ = 23 := by decide

/-- 1.4.1, step 1: an accepted header of 32 units leaves 80 free. -/
theorem test_header_reserves : (after (.segmentHeader ⟨3, 1, 2038, 0, 0, 0⟩) up).link.free .graphics = 80 := by
  decide +kernel

/-- 1.5, check 2: an unassigned kind is discarded with SEG_BAD and its unit awaits return. -/
theorem test_arrival_unassigned :
    let t := run [.segmentHeader ⟨0x30, 0, 0, 0, 0, 0⟩, .segmentArrivalComplete [] (crc16 [0x30, 0, 0, 0, 0, 0, 0, 0])] up
    t.events.flags = 1 ∧ t.link.graphics.queue = [] ∧ t.link.graphics.credits = 1 := by decide +kernel

theorem test_header_cut : (after (.headerCutShort 3) up).link.rx = .header false ∧
    (after (.headerCutShort 3) up).events.flags = 1 := by decide +kernel

theorem test_arrival_cut : (after .arrivalCutShort (setRx (.arriving ⟨3, 1, 2038, 0, 0, 0⟩) up)).link.free .graphics = 112 := by
  decide +kernel

theorem test_stray_once : (after (.strayBytes 9) up).link.rx = .waiting true ∧ (after (.strayBytes 9) up).events.flags = 1 := by
  decide +kernel

theorem test_dropped_end : (after .droppedSegmentEnd (setRx .dropping up)).link.rx = .waiting false := by decide +kernel

/-! ## Graphics segments -/

/-- 8.3.1: a scene of 1280 × 720 with AUTO origin on a 1920 × 1080 raster stands at (320, 180). -/
theorem test_scene_open : (after .sceneOpen (stored .graphics (seg 0x01 0 0 0 0 (w 7 ++ [0, 0] ++ w 1280 ++ w 720)) up)).sched.scene =
    ⟨7, 1280, 720, 320, 180⟩ := by decide +kernel

/-- 3.2: the later of two entries for one Slot stands. -/
theorem test_palette : let t := after .palette (stored .graphics
      (seg 0x02 0 9 3 0 ([1, 0] ++ w 2 ++ w 37 ++ [1, 2, 3, 4] ++ w 37 ++ [5, 6, 7, 8])) up)
    (t.palettes.get 3).staged = some ([(37, ⟨5, 6, 7, 8⟩)], .frame 9) ∧ (t.palettes.get 3).live = [] := by decide +kernel

/-- The object of 2.6.1: Width 6, Height 2, its eleven coded bytes. -/
def object261 : List Nat := [66, 9, 1, 5, 6, 192, 194, 65, 7, 192, 255]

theorem test_first_fragment : (after .objectFirstFragment (stored .graphics
      (seg 0x03 3 0 5 0 ([0, 0] ++ w 6 ++ w 2 ++ [0, 0] ++ w 11 ++ object261)) up)).objects.slot 5 =
    .queued 6 2 11 (object261.map byteOf) := by decide +kernel

theorem test_later_fragment : (after .objectLaterFragment (stored .graphics (seg 0x03 2 0 5 1 [3])
      (up.setObjects (up.objects.setSlot 5 (.assembling 6 2 3 [1, 2] 1))))).objects.slot 5 = .queued 6 2 3 [1, 2, 3] := by
  decide +kernel

/-- 2.6.1: the decoded pixels, and the mark. -/
theorem test_decode_damaged : decodeObject 6 2 (object261.map byteOf) = ([[9, 9, 9, 9, 5, 6], [0, 0, 7, 7, 7, 0]], true) := by
  decide +kernel

/-- 2.6.1, its last sentence: with the second line coded 194 | 66, 7 | 192 it ends READY. -/
theorem test_decode_ready : decodeObject 6 2 [66, 9, 1, 5, 6, 192, 194, 66, 7, 192, 255] =
    ([[9, 9, 9, 9, 5, 6], [0, 0, 7, 7, 7, 7]], false) := by decide +kernel

/-- 2.6.2: overflow and a cut-off code. -/
theorem test_decode_cut_off : decodeObject 4 3 [3, 1, 2, 3, 4, 192, 130, 0, 8, 192, 65] =
    ([[1, 2, 3, 4], [8, 8, 8, 8], [0, 0, 0, 0]], true) := by decide +kernel

theorem test_cancel : (after .cancel (stored .graphics (seg 0x06 0 0 0 0 [])
      (up.setObjects ((up.objects.setSlot 5 (.assembling 6 2 3 [1, 2] 1)).setSlot 6 (.broken true))))).objects.slots =
    (up.objects.setSlot 6 (.broken false)).slots := by decide +kernel

/-- The bytes of a button record (12.2): id, flags, rectangle, neighbours, Number, Command; no look and no animation. -/
def btn (id flags : Nat) (rect : List Nat) (up down left right number : Nat) : List Nat :=
  [id, flags] ++ rect ++ [up, down, left, right, number, 0] ++ w 0 ++ w (256 + id)

/-- A BUTTONS for table 1: button 0 and button 1, each below the other, and button 2 MUTED. -/
def buttonsSeg : Segment := seg 0x04 0 0 1 0 ([0, 0, 3, 0] ++
  btn 1 0 (w 1 ++ w 1 ++ w 4 ++ w 4) 0 0 0xFF 0xFF 7 ++ btn 0 0 (w 9 ++ w 9 ++ w 4 ++ w 4) 1 1 2 1 3 ++
  btn 2 4 (w 0 ++ w 0 ++ w 1 ++ w 1) 0xFF 0xFF 0xFF 0 9)

theorem test_buttons : ((after .buttons (stored .graphics buttonsSeg up)).nav.tables.get 1).live.buttons.map
    (fun b => (b.id, b.up, b.down, b.number)) = [(0, some 1, some 1, 3), (1, some 0, some 0, 7), (2, none, none, 9)] := by
  decide +kernel

theorem test_layout : (after .layout (stored .graphics (seg 0x05 4 0 0 0 (w 77 ++ [0, 2, 1, 0xFF, 1, 1] ++ [5, 1] ++ w 3 ++ w 4))
      up)).sched.queue =
    [{ number := 77, kind := .full, palette := 2, table := some 1, initial := 0xFF, fade := .fadeIn, target := 1
       placements := [{ object := 5, keyed := true, crop := none, x := 3, y := 4 }] }] := by decide +kernel

/-! ## Keys -/

/-- Table 1 of `buttonsSeg` live, its Default button 0 the Selection. -/
def menu : State := up.setNav (deliver (some 1) 0xFF (after .buttons (stored .graphics buttonsSeg up))).nav

/-- The menu with keys waiting. -/
def withKeys (ks : List Key) : State := menu.setNav { menu.nav with keys := ks }

/-- A key that is not marked. -/
def key (c : KeyCode) (n : Nat) : Key := { code := c, n := byteOf n, marked := false }

theorem test_key : (after .key (stored .management (seg 0x41 0 0 5 0 [7]) up)).nav.keys = [key .number 7] := by
  decide +kernel

/-- 6.4: DOWN from button 0 reaches button 1; the walk to the right meets only the MUTED button 2, so the key STAYED. -/
theorem test_directional : (after .serveDirectionalKey (withKeys [key .down 0])).nav.result =
      some { code := .down, outcome := .moved, button := some 1, layout := 0, command := 0 } ∧
    (after .serveDirectionalKey (withKeys [key .left 0])).nav.result =
      some { code := .left, outcome := .stayed, button := some 0, layout := 0, command := 0 } := by decide +kernel

theorem test_ok : (after .serveOkKey (withKeys [key .ok 0])).nav.hold =
      some { button := 0, counter := 6, code := .ok, command := 256 } ∧
    (after .serveOkKey (withKeys [key .ok 0])).nav.result = none := by decide +kernel

theorem test_number : (after .serveNumberKey (withKeys [key .number 7])).nav.selection = some 1 ∧
    (after .serveNumberKey (withKeys [key .number 9])).nav.result =
      some { code := .number, outcome := .unused, button := some 0, layout := 0, command := 0 } := by decide +kernel

theorem test_unused : (after .serveUnusedKey (withKeys [{ key .up 0 with marked := true }])).nav.result =
    some { code := .up, outcome := .unused, button := some 0, layout := 0, command := 0 } := by decide +kernel

/-- 6.5: the end of a hold makes the ACTIVATED result and the button SELECTED. -/
theorem test_hold_end :
    let t := after .holdEnd ((menu.setNav { menu.nav with
      hold := some { button := 0, counter := 0, code := .ok, command := 256 }
      states := [(0, .activated), (1, .normal), (2, .muted)] }).setUnderway (.frame [.holdEnd, .panJump]))
    t.nav.result = some { code := .ok, outcome := .activated, button := some 0, layout := 0, command := 256 } ∧
      t.nav.stateOf 0 = .selected ∧ t.underway = .frame [.panJump] := by decide +kernel

/-! ## Plane requests, events, status, resets -/

/-- A plane request stored in a part in state `o`. -/
def request (tag : Nat) (o : OutputState) : State := stored .management (seg 0x42 0 0 tag 0 []) (inState o up)

/-- R160's example: in LIVE a FREEZE followed by a LIVE leaves no pending target. -/
theorem test_freeze_then_live :
    let t := after .planeReqFreeze (request 1 .live)
    t.output = { state := .live, target := some .frozen, lastRequest := .accepted } ∧
      (after .planeReqLive (stored .management (seg 0x42 0 0 0 0 []) t)).output =
        { state := .live, target := none, lastRequest := .accepted } := by decide +kernel

theorem test_off_and_standby : (after .planeReqOff (request 2 .off)).output.lastRequest = .ignored ∧
    (after .planeReqStandby (request 3 .off)).output.target = some .standby := by decide +kernel

/-- R163: a FREEZE ends a drain at once. -/
theorem test_drain_ended : (after .planeReqFreeze (request 1 .draining)).output =
    { state := .frozen, target := none, lastRequest := .accepted } := by decide +kernel

theorem test_restart : (after .restart (request 4 .fault)).output =
      { state := .off, target := none, lastRequest := .accepted } ∧
    (after .restart (request 4 .fault)).draw.queue = [.sceneClear] := by decide +kernel

/-- 12.4: the Status record has 48 bytes; State, ResetCause and FrameCounter come first. -/
theorem test_query : ((after .query (stored .management (seg 0x44 0 0 0 0 []) (inState .frozen up))).sender.status.map
    fun r => (r.bytes.length, r.bytes.take 4)) = some (48, [2, 0, 0, 0]) := by decide +kernel

theorem test_clear_events : (after .clearEvents (stored .management (seg 0x45 0 0 0 0 (w 0x0003))
    (up.setEvents { up.events with flags := 0x4007, notices := 7 }))).events =
      { up.events with flags := 0x4004, notices := 7 } := by decide +kernel

/-- R166, R172: a FATAL SEG_BAD enters FAULT and raises FAULT and STATE_CHANGE. -/
theorem test_fatal : let t := after (.headerCutShort 3) (up.setEvents { up.events with fatal := 1 })
    t.output.state = .fault ∧ t.events.flags = 0x6001 := by decide +kernel

theorem test_reset : let t := after .reset (stored .management (seg 0x4F 0 0 0 0 []) (inState .fault up))
    t.output.state = .off ∧ t.link.window = true ∧ t.resetCtl = { cause := .linkReset, phase := .inProgress } := by
  decide +kernel

theorem test_power_on : (after .powerOn (inState .standby up)).resetCtl = { cause := .powerOn, phase := .asserted } ∧
    (after .resetNRelease State.reset).resetCtl.phase = .inProgress := by decide +kernel

/-- R137, R153: the first frame start after a reset gives FC 1 and count 1; the READY then closes the discard window. -/
theorem test_first_frame :
    let t := run [.resetNRelease, .resetCompletion [], .reportPick] State.reset
    t.raster.fc = 1 ∧ t.divider.count = 1 ∧
      t.sender.transmitting = some { kind := .ready, tag := 0, target := 1, seq := 0, payload := [0] } ∧
      (after (.reportTransmitted false) t).link.window = false := by decide +kernel

/-- 1.7.1, pick 2: CREDIT (graphics), Count 2, Seq 43, at frame 1200. -/
theorem test_credit_pick : (after .reportPick ((up.setRaster { up.raster with fc := 1200 }).setSender
      { up.sender with nextSeq := 43 } |>.setLink { up.link with graphics := { resetChannel with credits := 2 } })).sender.transmitting =
    some { kind := .credit, tag := 0, target := 1200, seq := 43, payload := [2] } := by decide +kernel

/-! ## Settings -/

/-- A stored SET. -/
def setOf (count : Nat) (pairs : List (Nat × Nat)) : State :=
  stored .management (seg 0x43 0 0 0 0 (count :: pairs.flatMap fun p => [p.1] ++ w (p.2 / 65536) ++ w (p.2 % 65536))) up

/-- 12.3: the clamps and limits of the values. -/
theorem test_settings : (after .activateHold (setOf 1 [(0x07, 300)])).settings.activateHold = 255 ∧
    (after .lateLimit (setOf 1 [(0x08, 9)])).settings.lateLimit = 9 ∧
    (after .lead (setOf 1 [(0x09, 16)])).settings.lead = 15 ∧
    (after .sceneProtect (setOf 1 [(0x0A, 0xF0F0)])).settings.sceneProtect = 0x0F0 ∧
    (after .panelProtect (setOf 1 [(0x0B, 1)])).settings.panelProtect = 1 ∧
    (after .internalWidth (setOf 1 [(0x0C, 15)])).settings.internalWidth = 16 ∧
    (after .internalHeight (setOf 1 [(0x0D, 1081)])).settings.internalHeight = 1080 ∧
    (after .internalRate (setOf 1 [(0x0E, 55)])).settings.internalRate = .fps50 ∧
    (after .internalRate (setOf 1 [(0x0E, 56)])).settings.internalRate = .fps60 := by decide +kernel

theorem test_settings_more : (after .sceneOriginX (setOf 1 [(0x0F, 2000)])).settings.originX = some 1919 ∧
    (after .sceneOriginY (setOf 1 [(0x10, 0xFFFFFFFF)])).settings.originY = none ∧
    (after .borderColour (setOf 1 [(0x11, 0x01020304)])).settings.border = ⟨1, 2, 3⟩ ∧
    (after .eventEnable (setOf 1 [(0x01, 0x1FFFF)])).events.enables = 0xFFFF ∧
    (after .globalEnable (setOf 1 [(0x02, 0x100)])).events.globalEnable = true ∧
    (after .severity (setOf 1 [(0x03, 0x0D)])).events.fatal = 5 ∧
    (after .panelColour (setOf 1 [(0x2F, 0x01020304)])).panel.written.get 15 = ⟨1, 2, 3, 4⟩ ∧
    (after .panelColour0 (setOf 1 [(0x20, 0x01020304)])).panel.written.get 0 = ⟨16, 128, 128, 0⟩ := by decide +kernel

/-- 9.5: a code written to an enabled tap is buffered; a TAP_ENABLE with neither tap stops the count at 0, and an enabling
restarts it. -/
theorem test_taps : (after .tapACode (setOf 1 [(0x04, 9)])).divider.tapA = { code := 2, buffered := some 7, enabled := true } ∧
    (after .tapBCode (setOf 1 [(0x05, 1)])).divider.tapB = { code := 1, buffered := none, enabled := true } ∧
    (after .tapEnable (setOf 1 [(0x06, 0)])).divider.running = false ∧
    (after .tapEnable (stored .management (seg 0x43 0 0 0 0 [1, 6, 0, 0, 0, 1]) (after .tapEnable (setOf 1 [(0x06, 0)])))).divider.running
      = true := by decide +kernel

/-- 11.2: an unknown id is skipped with SEG_BAD after the last pair; a SET of no pairs is refused. -/
theorem test_bad_sets : (after .unknownSetting (setOf 1 [(0x12, 5)])).events.flags = 1 ∧
    (after .setRefused (setOf 0 [])).events.flags = 1 ∧
    (run [.unknownSetting, .lead] (setOf 2 [(0x30, 5), (0x09, 3)])).settings.lead = 3 := by decide +kernel

/-! ## Stills -/

/-- The part in LOCKED mode with video. -/
def locked : State := up.setRaster { up.raster with mode := .locked, width := 16, height := 16, whole := true }

/-- A whole frame of 16 × `h`. -/
def frame16 (h : Nat) : VideoFrame := List.replicate h (List.replicate 16 ⟨50, 128, 128⟩)

theorem test_capture : (after .capture (stored .management (seg 0x46 0 0 1 0 []) locked)).still.buffers.get 1 = .waiting ∧
    (after .capture (stored .management (seg 0x46 0 0 1 0 []) up)).still.last = .noVideo := by decide +kernel

/-- 7.6, frames 301 and 302: copying begins at one frame start and the capture completes at the next. -/
theorem test_capture_runs :
    let t := run [.videoInFrameStart (frame16 16) []] (locked.setStill { resetStill with buffers := #v[.waiting, .empty] })
    t.still.buffers.get 0 = .copying 16 16 [] ∧
      (after (.videoInFrameStart (frame16 16) []) t).still.buffers.get 0 = .valid 16 16 (frame16 16) := by decide +kernel

/-- A still of 1920 × 1080 in buffer 0 (its pixels are not read here). -/
def shot : Still := { resetStill with buffers := #v[.valid 1920 1080 [], .empty] }

/-- 7.6, frame 302: SHOW STILL0 DISSOLVE 10 makes the record VIDEO → STILL0, 0/10; STILL1 is refused NOT_VALID. -/
theorem test_show :
    (after .showSource (stored .management (seg 0x47 0 0 1 0 [1, 10]) (up.setStill shot))).still.transition =
      some { kind := .dissolve, old := .video, new := .still 0, d := 10, k := 0 } ∧
    (after .showSource (stored .management (seg 0x47 0 0 2 0 [1, 10]) (up.setStill shot))).still.last = .notValid := by
  decide +kernel

/-- 7.6, frame 313 on: the PAN's step 0, and the views of its seven steps. -/
theorem test_pan :
    (after .pan (stored .management (seg 0x48 0 0 0 0 (w 0 ++ w 0 ++ w 600 ++ w 0 ++ [4, 0] ++ w 7))
      (up.setStill { shot with shown := .still 0 }))).still.view = { wx := 0, wy := 0, z := 1 } ∧
    [1, 2, 3, 4, 5, 6, 7].map (fun i => let v := panView ⟨0, 0, 600, 0, 1, 4, 7, 0⟩ 1920 1080 i; (v.wx, v.z)) =
      [(85, 1), (171, 1), (257, 2), (342, 2), (428, 3), (514, 3), (600, 4)] := by decide +kernel

/-- R133's two examples. -/
theorem test_pan_values : panValue 0 600 3 7 = 257 ∧ panValue 600 0 3 7 = 343 := by decide

/-! ## Frames -/

theorem test_internal_frame : (after (.internalFrameStart []) up).raster.fc = 1 ∧
    (after (.internalFrameStart []) (inState .standby up)).raster.fc = 0 := by decide +kernel

/-- 8.1.3: the fourth whole frame of one size returns the part to LOCKED with VIDEO_BACK and one frame start. -/
theorem test_return :
    let t := run (List.replicate 5 (.videoInFrameStart (frame16 17) [])) up
    (t.raster.mode, t.raster.width, t.raster.height, t.raster.fc, t.events.flags) = (.locked, 16, 17, 1, 0x1000) := by
  decide +kernel

theorem test_return_held :
    let t := run (List.replicate 4 (.videoInFrameStart (frame16 17) [])) up
    let u := after (.videoInFrameStart (frame16 17) [.returnToLocked]) t
    (u.raster.mode, u.raster.fc) = (.internal, 0) ∧ (after .returnToLocked u).raster.mode = .locked := by decide +kernel

/-- 8.1: a frame of another size is a loss of video, with an internal frame start. -/
theorem test_loss : let t := after (.videoInFrameStart (frame16 17) []) locked
    (t.raster.mode, t.raster.width, t.raster.fc, t.events.flags) = (.internal, 1920, 1, 0x0800) ∧
      (after (.lossTimerExpiry []) (locked.setRaster { locked.raster with lossTimer := some .fps60 })).raster.mode = .internal := by
  decide +kernel

/-- 9.5: Tap A with code 2 ticks at count 104, with code 3 at 112; code 0 ticks at every count, code 7 at 0 alone. -/
theorem test_ticks : let at_ (n : Nat) (c : BitVec 3) : Bool :=
      ({ count := BitVec.ofNat 7 n, running := true, tapA := ⟨c, none, true⟩, tapB := ⟨c, none, false⟩ } : Divider).ticks ⟨c, none, true⟩
    at_ 104 2 = true ∧ at_ 105 2 = false ∧ at_ 112 3 = true ∧ at_ 108 3 = false ∧ at_ 121 0 = true ∧ at_ 64 7 = false ∧
      at_ 0 7 = true := by decide

/-- 3.3.2: Target 3 at frame 65535 and at frame 2 is not due; at frame 3 it is. -/
theorem test_due : due 65531 3 = false ∧ due 65535 3 = false ∧ due 2 3 = false ∧ due 3 3 = true ∧ due 40001 3 = false ∧
    due 40001 10000 = true := by decide

/-- A frame start under way that owes `c` and the panel colours. -/
def owing (c : FrameChange) (s : State) : State := s.setUnderway (.frame [c, .panelColours])

/-- 9.5, frame 1004: the tick makes the buffered code active. -/
theorem test_tick_codes : (after .tapATick (owing .tapA (up.setDivider { up.divider with
      tapA := { code := 2, buffered := some 3, enabled := true } }))).divider.tapA = { code := 3, buffered := none, enabled := true } ∧
    (after .tapBTick (owing .tapB (up.setSched { up.sched with fade := 4, fadeDir := .fadeOut }))).sched.fade = 3 := by
  decide +kernel

theorem test_fade_end : (after .fadeEnd (owing .fadeEnd (up.setSched { up.sched with fade := 0, fadeDir := .fadeOut }))).sched.fadeDir =
    .none := by decide +kernel

/-- A pan at its last step, and one that waits. -/
def panning (i : Nat) (b : Bool) : State :=
  (up.setStill { shot with shown := .still 0, pan := some ⟨0, 0, 600, 0, 1, 4, 7, i⟩ }).setDivider
    { up.divider with tapB := { up.divider.tapB with enabled := b } }

theorem test_pan_ends : (after .panEnd (owing .panEnd (panning 7 true))).still.pan = none ∧
    (after .panJumpToEnd (owing .panJump (panning 2 false))).still.view = { wx := 600, wy := 0, z := 4 } := by decide +kernel

theorem test_palette_live :
    ((after (.paletteGoesLive 2) (owing (.palette 2) (up.setPalettes (up.palettes.set 2
      { live := [], staged := some ([(37, ⟨1, 2, 3, 4⟩)], .frame 0) })))).palettes.get 2).live = [(37, ⟨1, 2, 3, 4⟩)] := by
  decide +kernel

theorem test_target_entry : (after .pendingTargetEntry (owing .pendingTarget (up.setOutput
    { up.output with target := some .live }))).output.state = .live := by decide +kernel

theorem test_standby : (after .standbyEntry (inState .draining up)).output.state = .standby ∧
    (after (.wakeCompletion []) (setStopped true (inState .waking up))).output.state = .off := by decide +kernel

/-- A layout of kind `k` due now. -/
def record (k : LayoutKind) : LayoutRecord :=
  { number := 77, kind := k, palette := 2, table := none, initial := 0xFF, fade := .none, target := 0, placements := [] }

/-- R165, steps 3 and 4: a bad FATAL head enters FAULT before the frame start of the wake, which then applies no UPDATE. -/
theorem test_wake_order : ∀ p ∈ [((0 : BitVec 3), (OutputState.off, 0)), (1, .fault, 1)],
    let s := setStopped true (inState .waking (((stored .management { seg 0x44 0 0 0 0 [] with crc := 0 } up).setEvents
      { up.events with fatal := p.1 }).setSched { up.sched with queue := [record .update] }))
    ((after (.wakeCompletion []) s).output.state, (after (.wakeCompletion []) s).sched.queue.length) = p.2 := by
  decide +kernel

/-- R162: the completion of the last decode fulfils the drain condition, and STANDBY is entered in that event. -/
theorem test_drain_ends : (after .decodeCompletion (inState .draining (up.setObjects
    { up.objects.setSlot 5 (.decoding 6 2 11 (object261.map byteOf)) with decoder := some 5 }))).output.state = .standby := by
  decide +kernel

/-- R17: a segment whose start, in the window, cut a dropped one short is dropped at its header, after READY's end too. -/
theorem test_window_ends : let s := (setRx .dropping State.reset).setSender { resetSender with
      transmitting := some { kind := .ready, tag := 0, target := 0, seq := 0, payload := [0] } }
    (run [.reportTransmitted true, .segmentHeader ⟨3, 1, 2038, 0, 0, 0⟩] s).link.rx = .dropping ∧
      (run [.reportTransmitted false, .segmentHeader ⟨3, 1, 2038, 0, 0, 0⟩] s).link.rx = .arriving ⟨3, 1, 2038, 0, 0, 0⟩ := by
  decide +kernel

/-- R72: a Fade OUT at F = 0 stays OUT at a frame start without a tick of Tap B, and ends at one with a tick. -/
theorem test_fade_out_waits : let s := up.setSched { up.sched with fade := 0, fadeDir := .fadeOut }
    (after (.internalFrameStart []) s).sched.fadeDir = .fadeOut ∧
      (run [.internalFrameStart [], .internalFrameStart []] s).sched.fadeDir = .none := by decide +kernel

/-- R152: no frame in STANDBY, once the frame in progress has been completed. -/
theorem test_no_frame_in_standby : (match step (inState .standby (after (.internalFrameStart []) up)) with
    | .next t => videoOut t none 0 0 | .fault _ => none | .refused _ => none) = none ∧
    videoOut (after (.internalFrameStart []) up) none 0 0 = some ⟨16, 128, 128⟩ := by decide +kernel

theorem test_submission : (after .layoutSubmission (up.setSched { up.sched with queue := [record .full] })).draw.queue =
    [.rebuild [] none ⟨0, 0, 1920, 1080⟩] := by decide +kernel

theorem test_flip : let t := after .flip (owing .flip ((up.setSched { up.sched with back := some (record .full) }).setDraw
      { up.draw with engine := .awaitFlip (.rebuild ⟨0, 0, 20, 20⟩) none }))
    t.draw.frontIsX = false ∧ t.sched.front.number = 77 := by decide +kernel

theorem test_update : (after .updateApplication (owing .update (up.setSched { up.sched with queue := [record .update] }))).sched.front.number =
    77 := by decide +kernel

theorem test_patch_flip : (after .patchFlip (owing .patchFlip (up.setDraw { up.draw with
    engine := .awaitFlip (.patch 1 ⟨1, 1, 2, 2⟩) none }))).draw.engine = .resyncing (some (⟨1, 1, 2, 2⟩, 0xF00)) none := by
  decide +kernel

theorem test_backlog : (after .backlogMove (up.setSched { up.sched with backlog := [3, 1] })).draw.queue = [.patch 3] ∧
    (after .backlogMove (up.setSched { up.sched with backlog := [3, 1] })).sched.backlog = [1] := by decide +kernel

/-! ## Jobs -/

/-- 5.2: a fill of 2 × 1 with panel index 5 under PANEL_PROTECT writes the upper four bits of both buffers. -/
theorem test_panel_job :
    let s := after .panelFill (stored .management (seg 0x49 0 0 0 0 (w 3 ++ w 0 ++ w 2 ++ w 1 ++ [5])) (up.setDraw
      { up.draw with planeX := [(4, 0x025)] }))
    (run [.jobStart, .jobCompletion] s).draw.planeX = [(3, 0x500), (4, 0x525)] ∧
      (run [.jobStart, .jobCompletion] s).draw.planeY = [(3, 0x500), (4, 0x500)] := by decide +kernel

/-- 5.2: a set bit of a bitmap is drawn, the leftmost pixel in the most significant bit. -/
theorem test_panel_bitmap :
    (run [.panelBitmap, .jobStart, .jobCompletion] (stored .management
      (seg 0x4A 0 0 0 0 (w 0 ++ w 0 ++ w 3 ++ w 1 ++ [5, 0xA0])) up)).draw.planeX = [(0, 0x500), (2, 0x500)] := by decide +kernel

theorem test_resync : (after .resyncCompletion (up.setDraw { up.draw with
    planeX := [(0, 0x312)], planeY := [(1, 0x444)], engine := .resyncing (some (⟨0, 0, 2, 1⟩, 0xF00)) none })).draw.planeY =
      [(0, 0x012), (1, 0x400)] := by decide +kernel

theorem test_decode_commands :
    let s := up.setObjects { up.objects.setSlot 5 (.queued 6 2 11 (object261.map byteOf)) with decodeQueue := [5] }
    (after .decodeStart s).objects.decoder = some 5 ∧
      (run [.decodeStart, .decodeCompletion] s).objects.slot 5 = .damaged 6 2 [[9, 9, 9, 9, 5, 6], [0, 0, 7, 7, 7, 0]] ∧
      (run [.decodeStart, .decodeCompletion] s).events.flags = 8 := by decide +kernel

theorem test_still_changes :
    (after .copyingPhaseStart (owing .copyingPhase (locked.setStill { resetStill with buffers := #v[.empty, .waiting] }))).still.buffers.get 1
      = .copying 16 16 [] ∧
    (after .captureCompletion (owing .captureCompletion (locked.setStill { resetStill with
      buffers := #v[.copying 16 16 [], .empty] }))).events.flags = 0x0100 ∧
    (after .transitionCompletion (owing .transitionCompletion (up.setStill { shot with
      transition := some ⟨.dissolve, .video, .still 0, 10, 10⟩ }))).still.shown = .still 0 := by decide +kernel

/-! ## Scanout: 8.3.1 and 7.6 -/

/-- The latch of 8.3.1: scene at (320, 180), button 3's rectangle on page 1, F 12, scene index 37 and panel index `p` at (1000, 400). -/
def latch831 (p f : Nat) : Latch :=
  { latchOf up with
    mode := .locked, output := .live, scene := ⟨7, 1280, 720, 320, 180⟩, fade := f, palette := 2
    pageMap := [(⟨600, 200, 200, 60⟩, 1)], front := [(pixelAddress 1000 400, BitVec.ofNat 12 (p * 256 + 37))]
    panel := resetPanel.shown.set 5 ⟨235, 128, 128, 128⟩ }

def palette831 : Sparse Entry := [(293, ⟨235, 128, 128, 192⟩)]
def video831 : Option Colour := some ⟨16, 128, 128⟩

theorem test_pixel_831 : composed (latch831 0 12) palette831 video831 1000 400 = ⟨140, 128, 128⟩ ∧
    composed (latch831 0 16) palette831 video831 1000 400 = ⟨181, 128, 128⟩ ∧
    composed (latch831 5 12) palette831 video831 1000 400 = ⟨188, 128, 128⟩ ∧
    composed (latch831 5 0) palette831 video831 1000 400 = ⟨126, 128, 128⟩ ∧
    composed (latch831 0 12) palette831 (some ⟨99, 1, 2⟩) 200 100 = ⟨99, 1, 2⟩ := by decide +kernel

/-- 7.6: at step 3 of 10 the proportion is 76 and a still of Y 200 over video of Y 50 gives Y 95. -/
theorem test_dissolve : 256 * 3 / 10 = 76 ∧ blend 76 200 50 = 95 := by decide

/-- 7.6: at zoom 4 from (600, 0), output pixel (1000, 400) samples buffer point (850, 100). -/
theorem test_sample : sample { latchOf up with
      buffers := #v[.valid 1920 1080 (List.replicate 100 [] ++ [List.replicate 850 ⟨0, 0, 0⟩ ++ [⟨9, 8, 7⟩]]), .empty] } ⟨1, 1, 1⟩
    { wx := 600, wy := 0, z := 4 } 1000 400 (.still 0) = ⟨9, 8, 7⟩ := by decide +kernel

/-- The step takes the front command; on an empty queue the part idles. -/
theorem test_step : (match step (up.setPending [.internalFrameStart [], .query]) with
    | .next t => (t.raster.fc, t.pending) | .fault _ => (0, []) | .refused _ => (0, [])) = (1, [.query]) ∧
    decodeTableWord 8 0x41 = none ∧ (up.withFetchWord 8 0x41) = up := by decide +kernel

/-! ## Witnesses: concrete states and operands that meet the hypotheses of each obligation, clause by clause -/

/-- The part with a graphics segment, with a management segment. -/
def gfx (g : Segment) : State := stored .graphics g up
def mgt (g : Segment) : State := stored .management g up

theorem witness_StepRunsFrontCommand : (up.setPending [.query]).pending = [.query] ∧ up.pending = [] := ⟨rfl, rfl⟩

theorem witness_SoundQueuesAreKept :
    (QueuesSound (stored .graphics (seg 6 0 0 0 0 []) (mgt (seg 0x44 0 0 0 0 []))) ∧ up.output.state ≠ .fault) ∧
    (seg 6 0 0 0 0 []).checked = some .cancel ∧ ((gfx (seg 6 0 0 0 0 [])).link.channel .graphics).parser.stopped = false ∧
    ((setStopped true up).link.channel .management).parser.stopped = true ∧ ((up.link.channel .management).queue = []) ∧
    ((seg 0x46 0 0 1 0 []).checked = some .capture ∧ (seg 0x46 0 0 2 0 []).checked = none ∧
      (seg 0x45 0 0 0 0 [1, 2]).checked = some .clearEvents ∧ (seg 0x45 0 0 0 0 [1]).checked = none ∧
      { seg 0x46 0 0 1 0 [] with crc := 0 }.checked = none) := by
  refine ⟨⟨fun ch => ?_, ?_⟩, ?_⟩
  · cases ch
    · exact (by decide +kernel : ∀ g ∈ [seg 6 0 0 0 0 []], g.checked.isSome = true)
    · exact (by decide +kernel : ∀ g ∈ [seg 0x44 0 0 0 0 []], g.checked.isSome = true)
  · decide
  · decide +kernel

/-- A state in which much is under way: a READY and an ASSEMBLING object, one in decode and one queued, a live menu with a
hold, a still shown with a pan and a transition, queued work in every queue, a stored segment and a waiting command. -/
def busy : State :=
  { menu with
    pending := [.internalFrameStart []]
    link := { menu.link with graphics := { resetChannel with queue := [seg 6 0 0 0 0 []], credits := 7 } }
    objects := { (((menu.objects.setSlot 1 (.ready 1 1 [[5]])).setSlot 2 (.assembling 2 2 9 [1] 4)).setSlot 3
        (.decoding 6 2 2 [1, 2])).setSlot 63 (.queued 4 4 1 [7]) with decodeQueue := [63], decoder := some 3, pins := [1] }
    nav := { menu.nav with
      hold := some { button := 0, counter := 2, code := .ok, command := 256 }
      states := [(0, .activated), (1, .normal), (2, .muted)], keys := [key .up 0] }
    still := { shot with
      shown := .still 0, pan := some ⟨0, 0, 600, 0, 1, 4, 7, 3⟩, transition := some ⟨.dissolve, .still 0, .video, 10, 4⟩ }
    sched := { menu.sched with queue := [record .update], backlog := [3, 1], fade := 9, fadeDir := .fadeIn }
    draw := { menu.draw with planeX := [(4, 0x525)], queue := [.patch 2] }
    output := { menu.output with state := .live }
    mixer := { frame := some (latchOf menu) } }

/-- The part with a decode in flight, so that a drain goes on. -/
def decoding (s : State) : State := s.setObjects busy.objects

theorem witness_BuffersStayCanonical : busy.buffersWf = true ∧ (∃ t, step busy = .next t) := ⟨by decide +kernel, _, rfl⟩
theorem witness_UnitsStayWithinCapacity : UnitsBound busy ∧ (∃ t, step busy = .next t) :=
  ⟨fun ch => by cases ch <;> decide +kernel, _, rfl⟩
theorem witness_QueuesStayBounded : QueueBounds busy ∧ (∃ t, step busy = .next t) :=
  ⟨by unfold QueueBounds; decide +kernel, _, rfl⟩
/-- The part after a RESET, about to complete it. -/
def completing : State :=
  (State.reset.setResetCtl { cause := .linkReset, phase := .inProgress }).setPending [.resetCompletion []]

theorem completing_resetOk : ResetOk completing where
  silent _ := ⟨fun ch => by cases ch <;> decide, by decide, (fun _ h => nomatch h)⟩
  ready h := by decide
  once h := by cases h
  inReset _ := ⟨rfl, rfl, (fun _ h => nomatch h), rfl, rfl, rfl, rfl, fun ch => by cases ch <;> rfl⟩

theorem witness_ParsersStopInStandbyOnly :
    (ParsersMatchState busy ∧ ∃ t, step busy = .next t) ∧
    (ParsersMatchState (setStopped true (inState .standby busy)) ∧ ∃ t, step (setStopped true (inState .standby busy)) = .next t) ∧
    ((OutputOk busy ∧ ∃ t, step busy = .next t) ∧
      OutputOk (inState .draining busy) ∧ ∃ t, step (inState .draining busy) = .next t) ∧
    (ResetOk completing ∧ completing.resetCtl.phase ≠ .complete ∧ ∃ t, step completing = .next t) := by
  refine ⟨⟨fun ch => by cases ch <;> decide +kernel, _, rfl⟩, ⟨fun ch => by cases ch <;> decide +kernel, _, rfl⟩,
    ⟨⟨⟨?_, ?_⟩, _, rfl⟩, ⟨⟨?_, ?_⟩, _, rfl⟩⟩, completing_resetOk, by decide, _, rfl⟩
  · intro _; exact .inl rfl
  · intro h; exact absurd h (by decide)
  · intro h; exact absurd h (by decide)
  · intro _ _; decide +kernel
theorem witness_ObjectStoreKeepsItsLaws : ObjectsOk busy.objects ∧ (∃ t, step busy = .next t) :=
  ⟨⟨by decide +kernel, by decide +kernel, by decide +kernel, by decide +kernel, by decide +kernel, by decide +kernel,
    by decide +kernel⟩, _, rfl⟩
theorem witness_HoldKeepsResultEmpty : HoldOk busy ∧ (∃ t, step busy = .next t) :=
  ⟨by unfold HoldOk; decide +kernel, _, rfl⟩
theorem witness_ButtonsKeepTheirLaws : ButtonsOk busy.nav ∧ (∃ t, step busy = .next t) := by
  refine ⟨⟨by decide +kernel, ?_, by decide +kernel, ?_, by decide +kernel, ?_⟩, _, rfl⟩
  · intro t tbl h
    have : ∀ t : TableId, (busy.nav.tables.get t).staged = none := by decide +kernel
    simp [this t] at h
  · intro b h
    have : busy.nav.selection = some 0 := by decide +kernel
    rw [this] at h; cases h; decide +kernel
  · intro h hh
    have : busy.nav.hold = some { button := 0, counter := 2, code := .ok, command := 256 } := by decide +kernel
    rw [this] at hh; cases hh; decide +kernel
theorem witness_CaptureNeedsVideo : CaptureNeedsVideo busy ∧ (∃ t, step busy = .next t) := ⟨fun _ => by decide +kernel, _, rfl⟩
theorem witness_StillsKeepTheirLaws : StillsOk busy.still ∧ (∃ t, step busy = .next t) := by
  refine ⟨⟨by decide +kernel, ?_, ?_, by decide +kernel, by decide +kernel, ?_⟩, _, rfl⟩
  · intro t h
    cases (show some (⟨.dissolve, .still 0, .video, 10, 4⟩ : Transition) = some t from h); decide +kernel
  · intro t h
    cases (show some (⟨.dissolve, .still 0, .video, 10, 4⟩ : Transition) = some t from h); decide
  · intro p h
    cases (show some (⟨0, 0, 600, 0, 1, 4, 7, 3⟩ : PanRecord) = some p from h); decide
theorem witness_RangesAreKept : RangesOk busy ∧ (∃ t, step busy = .next t) := by
  refine ⟨⟨by decide, by decide, by decide, by decide, by decide, ?_, ?_, by decide, ?_, by decide +kernel,
    by decide +kernel, by decide +kernel, ?_⟩, _, rfl⟩
  · intro x h; cases h
  · intro y h; cases h
  · intro a b h; cases h
  · intro l h
    cases (show some (latchOf menu) = some l from h)
    decide +kernel

/-- Headers at the bounds of each clause: kinds 0 and 0x80, the ends of both channels' kinds, the largest Lengths and one
byte more, and a channel without room. -/
theorem witness_HeaderChecks :
    (Ready (setRx (.header false) up) ∧ Ready (setRx (.header true) up) ∧ Ready (setRx (.arriving ⟨3, 0, 1, 0, 5, 0⟩) up)) ∧
    (Ready up ∧ up.link.rx = .waiting false ∧ up.link.window = false) ∧
    (Ready State.reset ∧ State.reset.link.rx = .waiting false ∧ State.reset.link.window = true) ∧
    (Ready (setRx .dropping (inState .standby up)) ∧ (setRx .dropping up).link.rx = .dropping) ∧
    ((⟨0, 0, 0, 0, 0, 0⟩ : Header).kind.toNat = 0 ∧ 0x7F < (⟨0x80, 0, 0, 0, 0, 0⟩ : Header).kind.toNat) ∧
    (2038 < (⟨0x3F, 0, 2039, 0, 0, 0⟩ : Header).length.toNat ∧ 1014 < (⟨0x7F, 0, 1015, 0, 0, 0⟩ : Header).length.toNat) ∧
    ((10 + 2038 + 63) / 64 ≤ 112 - (up.link.channel .graphics).units - (up.link.channel .graphics).credits ∧
      (10 + 1014 + 63) / 64 ≤ 16 - (up.link.channel .management).units - (up.link.channel .management).credits) ∧
    16 - ((mgt (seg 0x44 0 0 0 0 [])).link.channel .management).units - 0 < (10 + 1014 + 63) / 64 := by
  unfold Ready; decide +kernel

theorem witness_SegmentArrives :
    let h : Header := ⟨3, 0, 1, 0, 5, 0⟩
    let s := setRx (.arriving h) (up.setObjects (up.objects.setSlot 5 (.assembling 6 2 3 [1, 2] 0)))
    Ready s ∧ s.link.rx = .arriving h ∧ channelOf h.kind = some .graphics ∧ [(9 : Byte)].length = h.length.toNat ∧
      (s.link.channel .graphics).queue = [] ∧ (s.link.channel .graphics).parser.stopped = false ∧
      (0 : Word16) ≠ crc16 (headerBytes h ++ [9]) ∧ h.kind = 3 ∧ h.tag.toNat = (5 : ObjectId).val ∧
      (s.objects.slot 5).isAssembling = true ∧ channelOf 0x44 = some .management := by
  unfold Ready; decide +kernel

theorem witness_FramingFaults :
    Ready (setRx (.header false) up) ∧ Ready (setRx (.header true) State.reset) ∧
    Ready (setRx (.arriving ⟨3, 0, 1, 0, 5, 0⟩) up) ∧ (Ready up ∧ up.link.rx = .waiting false ∧ up.resetCtl.phase ≠ .asserted) ∧
    Ready (setRx (.waiting true) up) ∧ Ready (setRx .dropping up) ∧
    (Ready (setRx .dropping State.reset) ∧ State.reset.link.window = true) := by
  unfold Ready; decide +kernel

/-- A QUERY behind a pending STATUS. -/
def queryHeld : State := (mgt (seg 0x44 0 0 0 0 [])).setSender { up.sender with status := some (statusRecord up) }

/-- The part with another object ASSEMBLING and the store as `busy` has it. -/
def objectsBusy (g : Segment) : State := stored .graphics g (up.setObjects busy.objects)

/-- A PANEL_FILL. -/
def aFill : Segment := seg 0x49 0 0 0 0 (w 3 ++ w 0 ++ w 2 ++ w 1 ++ [15])

/-- A PANEL_FILL at the head, `n` jobs in the Draw Queue and an Update Backlog, the engine IDLE. -/
def panelHeld (n : Nat) (backlog : List ButtonId) : State :=
  stored .management aFill ((up.setDraw { up.draw with queue := List.replicate n .sceneClear }).setSched
    { up.sched with backlog })

/-- R82: the place a JOB_START frees is the Update Backlog's, and the held PANEL_FILL stays held; without a backlog the
JOB_START releases it. -/
theorem test_backlog_before_held_panel :
    let held (s : State) : Option HoldReason := (s.link.channel .management).parser.hold
    let s := after .jobStart (panelHeld 16 [3])
    let t := after .backlogMove s
    s.draw.queue.length = 15 ∧ held s = some .drawQueueFull ∧ held t = some .drawQueueFull ∧
      t.draw.queue = List.replicate 15 .sceneClear ++ [.patch 3] ∧ (after .panelFill s).draw.queue = t.draw.queue ∧
      held (after .jobStart (panelHeld 16 [])) = none := by decide +kernel

theorem witness_HoldConditions :
    ((seg 3 3 0 63 0 []).header.tag.toNat = (63 : ObjectId).val ∧ (seg 3 3 0 0 0 []).header.tag.toNat = (0 : ObjectId).val) ∧
    (Ready (setStopped true (inState .standby (gfx (seg 6 0 0 0 0 [])))) ∧ Ready up ∧
      (up.link.channel .graphics).queue = []) ∧
    (Ready queryHeld ∧ (queryHeld.link.channel .management).queue = [seg 0x44 0 0 0 0 []] ∧
      (seg 0x44 0 0 0 0 []).checked = some .query ∧ holdReason queryHeld .query (seg 0x44 0 0 0 0 []) ≠ none) ∧
    (let s := objectsBusy (seg 3 3 0 1 0 []); hasFirst (seg 3 3 0 1 0 []).header = true ∧ (1 : ObjectId) ∈ s.objects.pins ∧
      holdReason s .object (seg 3 3 0 1 0 []) = some .pinned) ∧
    (holdReason (panelHeld 16 []) .panelFill aFill ≠ none ∧ holdReason (panelHeld 15 [3]) .panelFill aFill ≠ none ∧
      holdReason (panelHeld 14 [3]) .panelFill aFill = none ∧ holdReason (panelHeld 15 []) .panelFill aFill = none) := by
  unfold Ready; decide +kernel

/-- A SCENE_OPEN of a mode and size. -/
def scene (mode sw sh : Nat) : Segment := seg 0x01 0 0 0 0 (w 7 ++ [mode, 0] ++ w sw ++ w sh)

theorem witness_SceneOpened :
    (Takes .graphics .sceneOpen (scene 2 1 1) (gfx (scene 2 1 1)) ∧ 1 < u8 (scene 2 1 1).payload 2) ∧
    (Takes .graphics .sceneOpen (scene 1 2000 1080) (gfx (scene 1 2000 1080)) ∧
      max 16 (min 1920 (u16 (scene 1 2000 1080).payload 4)) = up.sched.scene.w) ∧
    (Takes .graphics .sceneOpen (scene 1 15 15) (gfx (scene 1 15 15)) ∧
      max 16 (min 1920 (u16 (scene 1 15 15).payload 4)) ≠ up.sched.scene.w) ∧
    (Takes .graphics .sceneOpen (scene 0 20 20) (stored .graphics (scene 0 20 20) (up.setNav busy.nav)) ∧
      u8 (scene 0 20 20).payload 2 = 0 ∧ busy.nav.hold.isSome = true) := by
  unfold Takes Ready; decide +kernel

/-- A PALETTE for palette 7 with one entry. -/
def paletteSeg (base slot : Nat) : Segment := seg 0x02 0 9 7 0 ([base, 0] ++ w 1 ++ w slot ++ [1, 2, 3, 4])

theorem witness_PaletteStaged :
    (Takes .graphics .palette (paletteSeg 2 0) (gfx (paletteSeg 2 0)) ∧ (paletteSeg 2 0).header.tag.toNat = (7 : PaletteId).val) ∧
    (Takes .graphics .palette (paletteSeg 1 1023) (gfx (paletteSeg 1 1023)) ∧
      ∀ e ∈ paletteEntries 1 ((paletteSeg 1 1023).payload.drop 4), e.1 ≤ 1023) ∧
    (Takes .graphics .palette (paletteSeg 0 1024) (gfx (paletteSeg 0 1024)) ∧
      ∃ e ∈ paletteEntries 1 ((paletteSeg 0 1024).payload.drop 4), 1023 < e.1) ∧
    Sparse.wf clearEntry [(37, ⟨1, 2, 3, 4⟩)] = true := by
  unfold Takes Ready; decide +kernel

/-- A first fragment for object 63. -/
def first (flags len : Nat) (coded : List Nat) : Segment :=
  seg 0x03 flags 0 63 0 ([0, 0] ++ w 6 ++ w 2 ++ w (len / 65536) ++ w (len % 65536) ++ coded)

theorem witness_FirstFragment :
    ((first 1 3 [1]).header.tag.toNat = (63 : ObjectId).val ∧ hasFirst (first 1 3 [1]).header = true) ∧
    (Takes .graphics .object (first 1 0 []) (objectsBusy (first 1 0 [])) ∧ u32 (first 1 0 []).payload 6 = 0) ∧
    (Takes .graphics .object (first 3 262145 []) (objectsBusy (first 3 262145 [])) ∧
      u32 (first 3 262145 []).payload 6 = 262145) ∧
    (Takes .graphics .object (first 1 3 [1, 2, 3]) (objectsBusy (first 1 3 [1, 2, 3])) ∧ hasLast (first 1 3 [1]).header = false) ∧
    (Takes .graphics .object (first 3 3 [1, 2, 3]) (objectsBusy (first 3 3 [1, 2, 3])) ∧ hasLast (first 3 3 [1]).header = true) ∧
    Takes .graphics .object (first 1 2 [1, 2, 3]) (objectsBusy (first 1 2 [1, 2, 3])) ∧
    Takes .graphics .object (first 3 4 [1, 2, 3]) (objectsBusy (first 3 4 [1, 2, 3])) ∧
    (busy.objects.slot 2).isAssembling = true ∧
    (let s := (inState .draining (objectsBusy (first 3 0 []))).setEvents { up.events with fatal := 4 };
      Takes .graphics .object (first 3 0 []) s ∧ (after .objectFirstFragment s).output.state = .fault) := by
  unfold Takes Ready; decide +kernel

/-- A later fragment for object `k`. -/
def later (flags k seq : Nat) (coded : List Nat) : Segment := seg 0x03 flags 0 k seq coded

theorem witness_LaterFragment :
    (hasFirst (later 0 2 4 [1]).header = false ∧ (later 0 2 4 [1]).header.tag.toNat = (2 : ObjectId).val ∧
      busy.objects.slot 2 = .assembling 2 2 9 [1] 4) ∧
    (Takes .graphics .object (later 0 2 5 [1]) (objectsBusy (later 0 2 5 [1])) ∧ (later 0 2 5 [1]).header.seq ≠ 4) ∧
    Takes .graphics .object (later 0 2 4 [1, 2, 3, 4, 5, 6, 7, 8, 9]) (objectsBusy (later 0 2 4 [1, 2, 3, 4, 5, 6, 7, 8, 9])) ∧
    Takes .graphics .object (later 0 2 4 [1, 2, 3, 4, 5, 6, 7, 8]) (objectsBusy (later 0 2 4 [1, 2, 3, 4, 5, 6, 7, 8])) ∧
    Takes .graphics .object (later 2 2 4 [1, 2, 3, 4, 5, 6, 7]) (objectsBusy (later 2 2 4 [1, 2, 3, 4, 5, 6, 7])) ∧
    Takes .graphics .object (later 2 2 4 [1, 2, 3, 4, 5, 6, 7, 8]) (objectsBusy (later 2 2 4 [1, 2, 3, 4, 5, 6, 7, 8])) ∧
    Takes .graphics .object (later 2 9 4 []) (stored .graphics (later 2 9 4 []) (up.setObjects (up.objects.setSlot 9 (.broken true)))) ∧
    Takes .graphics .object (later 0 9 4 []) (stored .graphics (later 0 9 4 []) (up.setObjects (up.objects.setSlot 9 (.broken true)))) ∧
    (Takes .graphics .object (later 0 1 4 []) (objectsBusy (later 0 1 4 [])) ∧ (busy.objects.slot 1).isAssembling = false ∧
      busy.objects.slot 1 ≠ .broken true) := by
  unfold Takes Ready; decide +kernel

theorem witness_ParsersOnlyDiscard :
    let g : Segment := { later 0 2 4 [1] with crc := 0 }
    let s := (objectsBusy g).setEvents { up.events with fatal := 4 }
    g.crcOk = false ∧ g.header.kind = 3 ∧ g.header.tag.toNat = (2 : ObjectId).val ∧ (s.objects.slot 2).isAssembling = true ∧
      s.output.state.canFault = true ∧ s.events.fatal.getLsbD 2 = true ∧ s.events.fatal.getLsbD 0 = false ∧
      ((parsersGoOn s).link.channel .graphics).queue = [] ∧ (parsersGoOn s).output.state = .fault := by decide +kernel

theorem witness_CancelDropsAssembling :
    Takes .graphics .cancel (seg 6 0 0 0 0 []) (objectsBusy (seg 6 0 0 0 0 [])) := by unfold Takes Ready; decide +kernel

/-- A BUTTONS for table 3 with buttons of the given ids. -/
def buttonIds (count : Nat) (ids : List Nat) : Segment :=
  seg 0x04 0 0 3 0 ([0, 0, count, 0] ++ ids.flatMap fun i => btn i 0 (w 1 ++ w 1 ++ w 4 ++ w 4) 0 0 0 0 7)

set_option maxRecDepth 20000 in
theorem witness_ButtonsPlaced :
    (Takes .graphics .buttons (buttonIds 49 (List.range 49)) (gfx (buttonIds 49 (List.range 49))) ∧
      (rawButtons 49 ((buttonIds 49 (List.range 49)).payload.drop 4)).isSome = true) ∧
    (Takes .graphics .buttons (buttonIds 2 [4, 4]) (gfx (buttonIds 2 [4, 4])) ∧
      (rawButtons 2 ((buttonIds 2 [4, 4]).payload.drop 4)).map (·.map RawButton.id) = some [4, 4]) ∧
    (Takes .graphics .buttons (buttonIds 1 [48]) (gfx (buttonIds 1 [48])) ∧
      (rawButtons 1 ((buttonIds 1 [48]).payload.drop 4)).map (·.map RawButton.id) = some [48]) ∧
    (Takes .graphics .buttons (buttonIds 2 [47, 0]) (gfx (buttonIds 2 [47, 0])) ∧
      (buttonIds 1 [47]).header.tag.toNat = (3 : TableId).val ∧
      (rawButtons 2 ((buttonIds 2 [47, 0]).payload.drop 4)).map (·.map RawButton.id) = some [47, 0]) := by
  unfold Takes Ready; decide +kernel

/-- A LAYOUT. -/
def layoutSeg (kind palette table fade : Nat) (objects : List Nat) : Segment :=
  seg 0x05 0 3 0 0 (w 77 ++ [kind, palette, table, 0xFF, fade, objects.length] ++ objects.flatMap fun o => [o, 0] ++ w 3 ++ w 4)

set_option maxRecDepth 20000 in
theorem witness_LayoutQueued :
    (∀ g ∈ [layoutSeg 3 0 0 0 [], layoutSeg 0 8 0 0 [], layoutSeg 0 0 4 0 [], layoutSeg 0 0 0 3 [],
        layoutSeg 0 0 0 0 (List.replicate 33 0), layoutSeg 2 7 0xFF 2 [1], layoutSeg 1 7 3 1 [63], layoutSeg 0 0 0xFF 0 [64]],
      Takes .graphics .layout g (gfx g) ∧ (rawPlacements (u8 g.payload 7) (g.payload.drop 8)).isSome = true) ∧
    2 < u8 (layoutSeg 3 0 0 0 []).payload 2 ∧ 7 < u8 (layoutSeg 0 8 0 0 []).payload 3 ∧
    3 < u8 (layoutSeg 0 0 4 0 []).payload 4 ∧ 2 < u8 (layoutSeg 0 0 0 3 []).payload 6 ∧
    32 < u8 (layoutSeg 0 0 0 0 (List.replicate 33 0)).payload 7 ∧ u8 (layoutSeg 2 7 0xFF 2 [1]).payload 2 = 2 := by
  unfold Takes Ready; decide +kernel

/-- A KEY for OK. -/
def okKey : Segment := seg 0x41 0 0 4 0 []

theorem witness_KeyAccepted :
    (Takes .management .key okKey (stored .management okKey (withKeys (List.replicate 8 (key .up 0)))) ∧
      8 ≤ (List.replicate 8 (key .up 0)).length) ∧
    (Takes .management .key okKey (stored .management okKey (withKeys (List.replicate 7 (key .up 0)))) ∧
      (List.replicate 7 (key .up 0)).length < 8) := by
  unfold Takes Ready; decide +kernel

/-- The menu with button 1 set to AUTO_ACTIVATE. -/
def autoMenu (hold : Nat) : State :=
  ((withKeys [key .down 0]).setNav { (withKeys [key .down 0]).nav with
    tables := menu.nav.tables.set 1 { live := { default := none, buttons := menu.nav.table.buttons.map fun b =>
      { b with autoActivate := true, lookObject := true } }, staged := none } }).setSettings { up.settings with activateHold := hold }

theorem witness_DirectionalServed :
    (Ready (withKeys [key .down 0]) ∧ servesKeys (withKeys [key .down 0]) = true ∧ (key .down 0).marked = false ∧
      (key .down 0).code.directional = true ∧ menu.nav.liveTable.isSome = true ∧ menu.nav.selection = some 0) ∧
    (let s := up.setNav { up.nav with keys := [key .up 0] };
      Ready s ∧ servesKeys s = true ∧ s.nav.liveTable = none) ∧
    walk menu.nav.table .left 0 48 0 = none ∧ walk menu.nav.table .down 0 48 0 = some 1 ∧
    ((menu.nav.table.button 1).map Button.autoActivate = some false) ∧
    (∀ n ∈ [0, 1], Ready (autoMenu n) ∧ servesKeys (autoMenu n) = true ∧ (autoMenu n).nav.keys = [key .down 0] ∧
      walk (autoMenu n).nav.table .down 0 48 0 = some 1 ∧
      ((autoMenu n).nav.table.button 1).map (fun b => (b.autoActivate, b.lookObject)) = some (true, true)) ∧
    ((menu.nav.table.button 0).map (Button.neighbour · .down) = some (some 1) ∧ menu.nav.table.selectable 1 = true ∧
      (menu.nav.table.button 1).map (Button.neighbour · .left) = some none) ∧
    (Ready (inState .frozen (withKeys [key .down 0])) ∧ servesKeys (inState .frozen (withKeys [key .down 0])) = false) ∧
    ((menu.nav.table.button 0).map (Button.neighbour · .left) = some (some 2) ∧
      (menu.nav.table.button 2).map Button.muted = some true) := by
  unfold Ready; decide +kernel

theorem witness_OkAndNumberServed :
    (Ready (withKeys [key .ok 0]) ∧ servesKeys (withKeys [key .ok 0]) = true ∧ menu.nav.selection = some 0 ∧
      (menu.nav.table.button 0).isSome = true ∧ menu.settings.activateHold ≠ 0) ∧
    (let s := (withKeys [key .ok 0]).setNav { (withKeys [key .ok 0]).nav with selection := none };
      Ready s ∧ servesKeys s = true ∧ s.nav.liveTable.isSome = true) ∧
    (Ready (withKeys [key .number 0]) ∧
      ∀ b ∈ menu.nav.table.buttons, ¬ ((key .number 0).n ≠ 0 ∧ b.number = (key .number 0).n.toNat ∧ b.muted = false)) ∧
    (Ready (withKeys [key .number 7]) ∧ servesKeys (withKeys [key .number 7]) = true ∧
      (menu.nav.table.buttons.find? fun b => decide ((7 : Byte) ≠ 0) && b.number == (7 : Byte).toNat && !b.muted).map
        (fun b => (b.id, b.numberActivates, b.autoActivate)) = some (1, false, false)) ∧
    (∀ n ∈ [0, 1], let s := (autoMenu n).setNav { (autoMenu n).nav with keys := [key .number 7] };
      Ready s ∧ servesKeys s = true ∧
      (s.nav.table.buttons.find? fun b => decide ((7 : Byte) ≠ 0) && b.number == (7 : Byte).toNat && !b.muted).map
        (fun b => (b.id, b.autoActivate)) = some (1, true)) ∧
    (let s := up.setNav { up.nav with keys := [key .ok 0] }; Ready s ∧ servesKeys s = true ∧ s.nav.liveTable = none) := by
  unfold Ready; decide +kernel

theorem witness_UnusedServed :
    (Ready (withKeys [{ key .up 0 with marked := true }]) ∧ menu.nav.result = none ∧ menu.output.state ≠ .standby ∧
      menu.output.state ≠ .waking) ∧
    (Ready (inState .fault (withKeys [key .up 0])) ∧ (inState .fault menu).output.state = .fault ∧ menu.nav.hold = none) := by
  unfold Ready; decide +kernel

/-- The four requests with their Tags. -/
def requests : List (Instr × Byte × Target) :=
  [(.planeReqLive, 0, .live), (.planeReqFreeze, 1, .frozen), (.planeReqOff, 2, .off), (.planeReqStandby, 3, .standby)]

theorem witness_PlaneRequests : ∀ o ∈ [OutputState.live, .frozen, .off], ∀ p ∈ requests, ∀ t ∈ [none, some Target.live, some .standby],
    Takes .management .planeReq (seg 0x42 0 0 p.2.1.toNat 0 [])
      ((request p.2.1.toNat o).setOutput { state := o, target := t, lastRequest := .none }) ∧
    (seg 0x42 0 0 p.2.1.toNat 0 []).header.tag = p.2.1 := by
  unfold Takes Ready; decide +kernel

theorem witness_RequestsInDrainAndFault : ∀ o ∈ [OutputState.draining, .fault], ∀ p ∈ requests,
    Takes .management .planeReq (seg 0x42 0 0 p.2.1.toNat 0 []) (decoding (request p.2.1.toNat o)) := by
  unfold Takes Ready; decide +kernel

theorem witness_RestartFlushes : ∀ o ∈ [OutputState.live, .frozen, .off, .draining, .fault],
    Takes .management .planeReq (seg 0x42 0 0 4 0 []) (decoding (request 4 o)) ∧ (seg 0x42 0 0 4 0 []).header.tag = 4 := by
  unfold Takes Ready; decide +kernel

theorem witness_QueryFillsStatus : Takes .management .query (seg 0x44 0 0 0 0 []) (mgt (seg 0x44 0 0 0 0 [])) := by
  unfold Takes Ready; decide +kernel

theorem witness_ClearEventsClears :
    Takes .management .clearEvents (seg 0x45 0 0 0 0 (w 3)) (mgt (seg 0x45 0 0 0 0 (w 3))) := by
  unfold Takes Ready; decide +kernel

/-- A key result. -/
def aResult : KeyResult := { code := .ok, outcome := .unused, button := none, layout := 0, command := 0 }

theorem witness_ReportsPickedAndSent :
    (Ready up ∧ up.sender.transmitting = none ∧ up.sender.ready = false ∧ up.sender.status = none ∧
      up.link.graphics.credits = 0 ∧ up.link.management.credits = 0 ∧ up.nav.result = none ∧ up.events.notices = 0) ∧
    Ready (up.setSender { up.sender with ready := true }) ∧
    Ready (up.setSender { up.sender with status := some (statusRecord up) }) ∧
    Ready (up.setLink { up.link with graphics := { resetChannel with credits := 2 } }) ∧
    Ready (up.setLink { up.link with management := { resetChannel with credits := 1 } }) ∧
    Ready (up.setNav { up.nav with result := some aResult }) ∧ Ready (up.setEvents { up.events with notices := 1 }) ∧
    (∀ k ∈ [ReportKind.ready, .notice], Ready (up.setSender { up.sender with
      transmitting := some { kind := k, tag := 0, target := 1, seq := 0, payload := [0] } })) := by
  unfold Ready; decide +kernel

/-- A CAPTURE into buffer 1, and the state it is taken in. -/
def captureSeg : Segment := seg 0x46 0 0 1 0 []
def capturing (o : OutputState) (st : Still) (r : Raster) : State :=
  stored .management captureSeg ((inState o up).setStill st |>.setRaster r)

theorem witness_CaptureTested :
    captureSeg.header.tag.toNat = (1 : Fin 2).val ∧
    Takes .management .capture captureSeg (decoding (capturing .draining resetStill resetRaster)) ∧
    Takes .management .capture captureSeg (capturing .fault resetStill resetRaster) ∧
    (Takes .management .capture captureSeg (capturing .live { resetStill with
        buffers := #v[.empty, .valid 16 16 []], shown := .still 1 } resetRaster)) ∧
    (Takes .management .capture captureSeg (capturing .live { resetStill with buffers := #v[.waiting, .empty] } resetRaster) ∧
      ((#v[.waiting, .empty] : Vector StillBuffer 2).get 0).capturing = true) ∧
    (Takes .management .capture captureSeg (capturing .live resetStill resetRaster) ∧ resetRaster.mode = .internal) ∧
    (Takes .management .capture captureSeg (capturing .live resetStill locked.raster) ∧ locked.raster.mode = .locked ∧
      resetStill.shown ≠ .still 1 ∧ resetStill.transition = none ∧ (resetStill.buffers.get 0).capturing = false) := by
  unfold Takes Ready; decide +kernel

/-- A SHOW of a Tag, Kind and Duration. -/
def show_ (tag kind duration : Nat) : Segment := seg 0x47 0 0 tag 0 [kind, duration]

theorem witness_ShowStartsTransition :
    (Takes .management .showSource (show_ 0 4 1) (mgt (show_ 0 4 1)) ∧ 3 < u8 (show_ 0 4 1).payload 0) ∧
    (Takes .management .showSource (show_ 2 3 1) (stored .management (show_ 2 3 1) (up.setStill shot)) ∧
      shot.showable (.still 1) = false) ∧
    (Takes .management .showSource (show_ 1 0 0) (stored .management (show_ 1 0 0) (up.setStill { shot with
        transition := some ⟨.dissolve, .video, .still 0, 10, 4⟩ })) ∧ shot.showable (.still 0) = true) ∧
    (Takes .management .showSource (show_ 0 3 255) (stored .management (show_ 0 3 255) (up.setStill shot)) ∧
      shot.showable .video = true ∧ shot.transition = none) ∧
    Takes .management .showSource (show_ 1 2 0) (stored .management (show_ 1 2 0) (decoding (inState .draining (up.setStill shot)))) := by
  unfold Takes Ready; decide +kernel

/-- The PAN of 7.6. -/
def panSeg : Segment := seg 0x48 0 0 0 0 (w 0 ++ w 0 ++ w 600 ++ w 0 ++ [4, 0] ++ w 7)

theorem witness_PanStarts :
    (Takes .management .pan panSeg (mgt panSeg) ∧ up.still.shown = .video) ∧
    (let s := stored .management panSeg (up.setStill { shot with shown := .still 0 });
      Takes .management .pan panSeg s ∧ s.still.shown = .still 0 ∧ (s.still.buffers.get 0).size = (1920, 1080) ∧
      s.output.state ≠ .draining ∧ s.divider.tapB.enabled = true) ∧
    Takes .management .pan panSeg (stored .management panSeg (decoding (inState .draining (up.setStill { shot with shown := .still 0 })))) ∧
    Takes .management .pan panSeg (stored .management panSeg (panning 2 false)) := by
  unfold Takes Ready; decide +kernel

theorem witness_PanViewFormula : (panning 2 true).still.shown = .still 0 ∧ 1 ≤ 7 ∧ 7 ≤ 7 ∧ 1 ≤ 1920 ∧ 1 ≤ 1080 := by
  decide +kernel

/-- A PANEL_FILL and a PANEL_BITMAP with a panel index. -/
def fillSeg (i : Nat) : Segment := seg 0x49 0 0 0 0 (w 3 ++ w 0 ++ w 2 ++ w 1 ++ [i])
def bitmapSeg (i : Nat) : Segment := seg 0x4A 0 0 0 0 (w 0 ++ w 0 ++ w 9 ++ w 1 ++ [i, 0xA0, 0x80])

theorem witness_PanelQueued : ∀ i ∈ [15, 16], Takes .management .panelFill (fillSeg i) (mgt (fillSeg i)) ∧
    Takes .management .panelBitmap (bitmapSeg i) (mgt (bitmapSeg i)) ∧ u8 (fillSeg i).payload 8 = i ∧
    u8 (bitmapSeg i).payload 8 = i := by
  unfold Takes Ready; decide +kernel

theorem witness_ResetsRestoreValues :
    Takes .management .reset (seg 0x4F 0 0 0 0 []) (mgt (seg 0x4F 0 0 0 0 [])) ∧
    (Ready State.reset ∧ State.reset.resetCtl.phase = .asserted) ∧
    (Ready completing ∧ completing.resetCtl.phase = .inProgress ∧ completing.draw.engine = .idle) ∧ ResetOk completing := by
  refine ⟨?_, ?_, ?_, completing_resetOk⟩ <;> first | (unfold Takes Ready; decide +kernel) | (unfold Ready; decide +kernel)

/-- A SET of one pair, and its segment. -/
def setSeg (pairs : List (Nat × Nat)) (count : Nat) : Segment :=
  seg 0x43 0 0 0 0 (count :: pairs.flatMap fun p => [p.1] ++ w (p.2 / 65536) ++ w (p.2 % 65536))

theorem witness_SettingsWritten : ∀ id ∈ (List.range 0x12 ++ [0x20, 0x21, 0x2F]),
    Takes .management .set (setSeg [(id, 9)] 1) (setOf 1 [(id, 9)]) ∧ u8 (setSeg [(id, 9)] 1).payload 0 = 1 ∧
    pairsOf (setSeg [(id, 9)] 1) = [⟨byteOf id, 9⟩] := by
  unfold Takes Ready; decide +kernel

/-- A stored TAP_ENABLE in a state of the taps and of the part. -/
def enabling (v : Nat) (d : Divider) (o : OutputState) : State :=
  stored .management (setSeg [(6, v)] 1) ((inState o (panning 2 true)).setDivider d |>.setSched
    { up.sched with fade := 9, fadeDir := .fadeIn } |>.setNav { menu.nav with anim := 2 })

theorem witness_TapsWritten :
    (∀ o ∈ [OutputState.live, .frozen], ∀ v ∈ [0, 1, 2, 3], ∀ d ∈ [resetDivider,
        { resetDivider with running := false, tapA := { resetDivider.tapA with enabled := false }
                            tapB := { resetDivider.tapB with enabled := false } }],
      Takes .management .set (setSeg [(6, v)] 1) (enabling v d o) ∧ pairsOf (setSeg [(6, v)] 1) = [⟨6, BitVec.ofNat 32 v⟩]) ∧
    ((enabling 2 resetDivider .live).nav.anim ≠ 0 ∧ (enabling 2 resetDivider .live).nav.selection = some 0) ∧
    (∀ id ∈ [4, 5], ∀ v ∈ [2, 7, 8], Takes .management .set (setSeg [(id, v)] 1) (setOf 1 [(id, v)])) := by
  unfold Takes Ready; decide +kernel

set_option maxRecDepth 20000 in
theorem witness_SetPairsInOrder :
    (∀ n ∈ [0, 65], Takes .management .set (setSeg (List.replicate n (1, 0)) n) (mgt (setSeg (List.replicate n (1, 0)) n))) ∧
    (∀ id ∈ [0, 0x12, 0x1F, 0x30, 0xFF], Takes .management .set (setSeg [(id, 9)] 1) (setOf 1 [(id, 9)]) ∧
      pairsOf (setSeg [(id, 9)] 1) = [⟨byteOf id, 9⟩]) ∧
    (∀ n ∈ [2, 64], Takes .management .set (setSeg (List.replicate n (9, 3)) n) (mgt (setSeg (List.replicate n (9, 3)) n)) ∧
      pairsOf (setSeg (List.replicate n (9, 3)) n) = List.replicate n ⟨9, 3⟩) ∧
    (let s := after .unknownSetting (setOf 3 [(0x12, 1), (9, 3), (7, 4)]);
      s.underway = .set [⟨9, 3⟩, ⟨7, 4⟩] true ∧ (after .lead s).underway = .set [⟨7, 4⟩] true ∧
      (after .lead s).output.state ≠ .draining) := by
  unfold Takes Ready; decide +kernel

/-- A state with a REBUILD in AWAIT_FLIP and its Back Layout record, which names table 1 and button 1. -/
def flipping (o : OutputState) : State :=
  (((inState o menu).setSched { menu.sched with back := some { record .full with table := some 1, initial := 1 } }).setDraw
    { menu.draw with engine := .awaitFlip (.rebuild ⟨0, 0, 20, 20⟩) none }).setUnderway (.frame [.flip, .panelColours])

theorem witness_InternalFrameStarts :
    (Ready up ∧ framesRun up = true ∧ up.raster.mode = .internal) ∧
    (∀ o ∈ [OutputState.live, .frozen, .fault], ∀ k ∈ [8, 9], ∀ n ∈ [0, 1, 2],
      let s := inState o ((menu.setStill { shot with transition := some ⟨.dissolve, .video, .still 0, 10, k⟩ }).setNav
        { menu.nav with hold := some { button := 0, counter := n, code := .ok, command := 256 } });
      Ready s ∧ framesRun s = true ∧ s.raster.mode = .internal ∧ s.sched.back = none ∧ s.sched.queue = []) ∧
    (∀ o ∈ [OutputState.live, .frozen], ∀ i ∈ [2, 6], ∀ b ∈ [true, false], ∀ c ∈ [0, 1],
      let s := inState o ((panning i b).setDivider { (panning i b).divider with count := BitVec.ofNat 7 c, running := true })
      Ready s ∧ framesRun s = true ∧ s.raster.mode = .internal ∧ s.divider.running = true ∧
      decide ((s.divider.count + 1).toNat % 2 ^ s.divider.tapB.code.toNat = 0) = decide (c = 1) ∧ s.still.pan = some ⟨0, 0, 600, 0, 1, 4, 7, i⟩ ∧
      s.still.transition = none ∧ i < 7 ∧ s.divider.tapB.enabled = b) ∧
    (∀ o ∈ [OutputState.live, .frozen], ∀ x ∈ [StagedTarget.immediate, .frame 1, .frame 2],
      let s := (inState o up).setPalettes (up.palettes.set 2 { live := [], staged := some ([], x) })
      Ready s ∧ framesRun s = true ∧ s.raster.mode = .internal ∧ (s.palettes.get 2).staged = some ([], x)) ∧
    (up.raster.fc + 1 - 1).toNat < 32768 ∧ ¬ (up.raster.fc + 1 - 2).toNat < 32768 ∧
    (∀ o ∈ [OutputState.live, .off, .frozen, .fault],
      let s := (flipping o).setUnderway .nothing
      let p := (inState o up).setDraw { up.draw with engine := .awaitFlip (.patch 1 ⟨1, 1, 2, 2⟩) none }
      let q := inState o (up.setSched { up.sched with queue := [record .update] })
      (Ready s ∧ framesRun s = true ∧ s.raster.mode = .internal ∧ s.sched.back.isSome = true ∧
        s.draw.engine = .awaitFlip (.rebuild ⟨0, 0, 20, 20⟩) none) ∧
      (Ready p ∧ framesRun p = true ∧ p.raster.mode = .internal) ∧
      Ready q ∧ framesRun q = true ∧ q.raster.mode = .internal ∧ q.sched.queue = [record .update] ∧ q.sched.back = none ∧
        drawable q (record .update) = true ∧ q.sched.backlog = []) ∧
    (∀ tr ∈ [none, some ⟨.dissolve, .video, .still 0, 10, 4⟩], ∀ held ∈ [[], [FrameChange.pendingTarget, .flip, .panJump]],
      let p := (panning 2 true).setStill { (panning 2 true).still with transition := tr }
      let s := p.setOutput { p.output with state := .live, target := some .standby }
      Ready s ∧ framesRun s = true ∧ s.raster.mode = .internal ∧ s.still.pan.isSome = true ∧
        (after (.internalFrameStart held) s).underway = (if held = [] then .nothing else
          .frame ([FrameChange.pendingTarget, .flip, .patchFlip, .update, .panelColours] ++ [.panJump] ++
            (if tr.isSome then [.transitionStep] else [])))) := by
  unfold Ready; refine ⟨?_, ?_, ?_, ?_, ?_, ?_, ?_, ?_⟩ <;> decide +kernel

theorem witness_LockedFrameStarts :
    (Ready locked ∧ framesRun locked = true ∧ locked.raster.mode = .locked ∧ locked.raster.whole = true) ∧
    measuredSize (frame16 16) = some (locked.raster.width, locked.raster.height) ∧
    measuredSize (frame16 17) ≠ some (locked.raster.width, locked.raster.height) ∧
    (let s := locked.setRaster { locked.raster with whole := false };
      Ready s ∧ framesRun s = true ∧ s.raster.whole = false) ∧
    (locked.still.anyCopying = false ∧ StillsOk { resetStill with buffers := #v[.copying 16 16 [], .empty] }) ∧
    (let s := locked.setStill { resetStill with buffers := #v[.copying 16 16 [], .empty] };
      Ready s ∧ framesRun s = true ∧ s.still.anyCopying = true ∧ s.still.buffers.get 0 = .copying 16 16 [] ∧
      (after (.videoInFrameStart (frame16 16) []) s).still.buffers.get 0 = .valid 16 16 (frame16 16)) ∧
    StillsOk { shot with shown := .still 0, buffers := #v[.valid 1920 1080 [], .copying 16 16 []] } := by
  refine ⟨?_, ?_, ?_, ?_, ⟨?_, ?_, nofun, nofun, ?_, ?_, nofun⟩, ?_, ⟨?_, nofun, nofun, ?_, ?_, nofun⟩⟩ <;> (try unfold Ready) <;> decide +kernel

/-- The part in INTERNAL mode with a return count and a candidate. -/
def counting (n : Nat) (c : Option (Nat × Nat)) (b : Bool) : State :=
  up.setRaster { up.raster with returnCount := n, candidate := c, whole := b }

theorem witness_ReturnIsCounted :
    (∀ s ∈ [counting 0 none false, counting 0 none true, counting 1 (some (16, 17)) true, counting 2 (some (16, 16)) true,
        counting 3 (some (16, 17)) true],
      Ready s ∧ framesRun s = true ∧ s.raster.mode = .internal ∧ s.raster.returnCount ≤ 3 ∧
      s.still.captureInFlight = false) ∧
    measuredSize [] = none ∧ measuredSize (frame16 15) = none ∧ measuredSize (frame16 17) = some (16, 17) := by
  unfold Ready; decide +kernel

theorem witness_LossTimerExpires :
    (∀ s ∈ [locked.setRaster { locked.raster with lossTimer := some .fps60 }, up.setRaster { up.raster with lossTimer := some .fps50 }],
      Ready s ∧ framesRun s = true ∧ s.raster.lossTimer.isSome = true) ∧
    (locked.setStill { resetStill with buffers := #v[.waiting, .empty] }).still.captureInFlight = true := by
  unfold Ready; decide +kernel

theorem witness_StandbyAndWake :
    (∀ u ∈ [Underway.nothing, .drained], ∀ s ∈ [inState .draining up, inState .draining (mgt (seg 0x44 0 0 0 0 []))],
      (s.setUnderway u).underway = u ∧ backlogDue s = false ∧ s.output.state = .draining ∧ s.draw.engine = .idle ∧
      s.still.captureInFlight = false ∧ s.objects.decoder = none) ∧
    (∀ o ∈ [OutputState.live, .frozen, .off], let s := up.setOutput { state := o, target := some .standby, lastRequest := .none };
      Ready s ∧ framesRun s = true ∧ s.raster.mode = .internal ∧ s.draw.engine = .idle ∧
      s.still.captureInFlight = false ∧ s.objects.decoder = none) ∧
    (∀ s ∈ [State.reset, setStopped true (inState .standby up)], Ready s ∧ framesRun s = false) ∧
    (∀ s ∈ [setStopped true (inState .waking up), setStopped true (inState .waking locked)],
      Ready s ∧ s.output.state = .waking ∧ s.output.target = none ∧ s.resetCtl.phase = .complete) := by
  unfold Ready; decide +kernel

/-- The menu with animated looks. -/
def animMenu : State := menu.setNav { menu.nav with
  tables := menu.nav.tables.set 1 ⟨{ default := none, buttons := menu.nav.table.buttons.map fun b =>
    { b with lookObject := true, hasAnim := true, animCount := 3 } }, none⟩ }

theorem witness_SceneChanges :
    (∀ o ∈ [OutputState.live, .off, .draining, .frozen], Owes .flip [.flip, .panelColours] (flipping o) ∧
      (([FrameChange.flip, .panelColours].erase .flip).erase .update).erase .fadeEnd ≠ [] ∧
      (flipping o).output.state = o) ∧
    ((menu.nav.effectiveTable 1).selectable 1 = true ∧ ((0 : Word16) - (record .full).target).toNat < 32768) ∧
    (let s := owing .update (up.setSched { up.sched with queue := [record .update] });
      Owes .update [.update, .panelColours] s ∧ drawable s (record .update) = true ∧ s.sched.back = none ∧
      s.sched.backlog = [] ∧ ([FrameChange.update, .panelColours].erase .update).erase .fadeEnd ≠ []) ∧
    (let r : LayoutRecord := { record .update with table := some 1, target := 0 };
     let s := owing .update ((((menu.setSched { menu.sched with queue := [r] }).setObjects
        (menu.objects.setSlot 2 (.assembling 2 2 9 [1] 4))).setRaster { menu.raster with fc := 8 }).setNav animMenu.nav);
      Owes .update [.update, .panelColours] s ∧ drawable s r = false ∧ s.settings.lateLimit ≤ (s.raster.fc - r.target).toNat ∧
      s.output.state = .off ∧ s.sched.back = none ∧ s.sched.backlog = []) ∧
    Owes .patchFlip [.patchFlip, .panelColours] (owing .patchFlip (up.setDraw { up.draw with
      engine := .awaitFlip (.patch 1 ⟨1, 1, 2, 2⟩) none })) ∧
    (∀ t ∈ [StagedTarget.immediate, .frame 0], ∀ o ∈ [OutputState.live, .frozen],
      let s := owing (.palette 2) ((inState o up).setPalettes (up.palettes.set 2 { live := [], staged := some ([], t) }))
      Owes (.palette 2) [.palette 2, .panelColours] s ∧ (s.palettes.get 2).staged = some ([], t)) ∧
    (∀ f ∈ [FrameChange.flip, .update, .patchFlip, .palette 2], Owes f [f, .panelColours] (owing f up)) ∧
    (up.sched.back = none ∧ up.sched.queue = [] ∧ up.draw.engine = .idle ∧ (up.palettes.get 2).staged = none) ∧
    ((menu.nav.table.buttons.map Button.id).Nodup) ∧
    (∀ f ∈ [FrameChange.flip, .update, .patchFlip, .palette 2], ((flipping .live).setUnderway (.frame [f])).underway =
      .frame [f]) := by
  unfold Owes; refine ⟨?_, ?_, ?_, ?_, ?_, ?_, ?_, ?_, ?_, ?_⟩ <;> decide +kernel

theorem witness_ControlChanges :
    (∀ o ∈ [OutputState.live, .frozen, .off], ∀ t ∈ [Target.live, .frozen, .off, .standby],
      Owes .pendingTarget [.pendingTarget, .panelColours]
        (owing .pendingTarget (up.setOutput { state := o, target := some t, lastRequest := .none }))) ∧
    (∀ n ∈ [0, 1], Owes .holdEnd [.holdEnd, .panelColours] (owing .holdEnd (menu.setNav { menu.nav with
      hold := some { button := 0, counter := n, code := .ok, command := 256 } }))) ∧
    (∀ o ∈ [OutputState.live, .frozen], Owes .tapA [.tapA, .panelColours] (owing .tapA (inState o (autoMenu 6))) ∧
      Owes .tapB [.tapB, .panelColours] (owing .tapB (inState o (panning 2 true)))) ∧
    (let s := owing .tapA animMenu;
      Owes .tapA [.tapA, .panelColours] s ∧ s.nav.selection = some 0 ∧ s.nav.stateOf 0 = .selected ∧
      (s.nav.table.button 0).map (fun b => (b.lookObject, b.hasAnim)) = some (true, true) ∧
      s.draw.hasPatch 0 = false ∧ s.draw.patchInProgress 0 = false) ∧
    (Owes .fadeEnd [.fadeEnd, .panelColours] (owing .fadeEnd (panning 2 true)) ∧ (panning 2 true).divider.tapB.enabled = true) ∧
    (Owes .fadeEnd [.fadeEnd, .panelColours] (owing .fadeEnd (panning 2 false)) ∧ (panning 2 false).divider.tapB.enabled = false) ∧
    (∀ f ∈ [FrameChange.pendingTarget, .holdEnd], Owes f [f, .panelColours] (owing f up)) ∧
    (up.output.target = none ∧ up.nav.hold = none ∧ (panning 7 true).still.pan = some ⟨0, 0, 600, 0, 1, 4, 7, 7⟩) ∧
    (∀ f ∈ [FrameChange.pendingTarget, .holdEnd, .tapA, .fadeEnd, .tapB], (up.setUnderway (.frame [f])).underway = .frame [f]) ∧
    (∀ s ∈ [up, { animMenu with draw := { animMenu.draw with queue := [.patch 0] } }], Owes .tapA [.tapA, .panelColours] (owing .tapA s)) ∧
    (up.nav.selection = none ∧ ({ animMenu.draw with queue := [.patch 0] } : Draw).hasPatch 0 = true) := by
  unfold Owes; refine ⟨?_, ?_, ?_, ?_, ?_, ?_, ?_, ?_, ?_, ?_, ?_⟩ <;> decide +kernel

theorem witness_StillChanges :
    Owes .panEnd [.panEnd, .panelColours] (owing .panEnd (panning 7 true)) ∧
    Owes .panJump [.panJump, .panelColours] (owing .panJump (panning 2 false)) ∧
    Owes .panJump [.panJump, .panelColours] (owing .panJump (panning 2 true)) ∧
    Owes .copyingPhase [.copyingPhase, .panelColours] (owing .copyingPhase (locked.setStill { resetStill with
      buffers := #v[.empty, .waiting] })) ∧
    Owes .captureCompletion [.captureCompletion, .panelColours] (owing .captureCompletion (locked.setStill { resetStill with
      buffers := #v[.copying 16 16 [], .empty] })) ∧
    Owes .transitionCompletion [.transitionCompletion, .panelColours] (owing .transitionCompletion (up.setStill { shot with
      transition := some ⟨.dissolve, .video, .still 0, 10, 10⟩ })) ∧
    (∀ f ∈ [FrameChange.panEnd, .panJump, .copyingPhase, .captureCompletion, .transitionCompletion],
      Owes f [f, .panelColours] (owing f up)) ∧
    (up.still.pan = none ∧ up.still.transition = none ∧ up.raster.mode = .internal ∧
      ∀ b, up.still.buffers.get b = .empty) ∧
    Owes .panEnd [.panEnd, .panelColours] (owing .panEnd (panning 6 true)) ∧
    (∀ o ∈ [OutputState.live, .frozen], Owes .transitionCompletion [.transitionCompletion, .panelColours]
      (owing .transitionCompletion (inState o (up.setStill { shot with
        transition := some ⟨.dissolve, .video, .still 0, 10, 9⟩ })))) ∧
    (∀ f ∈ [FrameChange.panEnd, .panJump, .copyingPhase, .captureCompletion, .transitionCompletion],
      (up.setUnderway (.frame [f])).underway = .frame [f]) := by
  unfold Owes; refine ⟨?_, ?_, ?_, ?_, ?_, ?_, ?_, ?_, ?_, ?_, ?_⟩ <;> decide +kernel

/-- A layout at the head of the queue; button 2 of table 1 then shows object 2, which `busy` is assembling. -/
def submitting (r : LayoutRecord) (fc : Word16) (o : ObjectStore) : State :=
  ((up.setSched { up.sched with queue := [r] }).setRaster { up.raster with fc }).setObjects o

/-- A FULL that places object `k`, with a target. -/
def placing (k : ObjectId) (target : Word16) : LayoutRecord :=
  { record .full with target, placements := [{ object := k, keyed := false, crop := none, x := 0, y := 0 }] }

theorem witness_SubmissionAndBacklog :
    (∀ s ∈ [submitting (placing 1 2) 0 busy.objects, submitting (placing 1 3) 0 busy.objects,
        submitting (placing 2 0) 8 busy.objects, submitting (placing 2 0) 7 busy.objects],
      Ready s ∧ s.sched.back = none ∧ s.draw.sceneBusy = false ∧ s.draw.queue.length < 16 ∧ s.sched.backlog = []) ∧
    (drawable (submitting (placing 1 2) 0 busy.objects) (placing 1 2) = true ∧
      drawable (submitting (placing 2 0) 8 busy.objects) (placing 2 0) = false ∧
      ((2 : Word16) - 0).toNat ≤ 2 ∧ ¬ ((3 : Word16) - 0).toNat ≤ 2 ∧ 8 ≤ ((8 : Word16) - 0).toNat ∧ ¬ 8 ≤ ((7 : Word16) - 0).toNat) ∧
    (inState .live up).output.state ≠ .draining ∧
    (∀ q ∈ [[], [Job.patch 3]], let s := (up.setSched { up.sched with backlog := [3, 1] }).setDraw { up.draw with queue := q }
      s.underway = .nothing ∧ s.draw.queue.length < 16) ∧
    (∀ s ∈ [up, up.setSched { up.sched with queue := [record .update] }, up.setSched { up.sched with back := some (record .full) },
        up.setDraw { up.draw with engine := .resyncing none none }, inState .fault up,
        (up.setSched { up.sched with backlog := [3] }).setDraw { up.draw with queue := List.replicate 16 .sceneClear }], Ready s) ∧
    (∀ bs ∈ [[], [3], [3, 1]], Ready (panelHeld 16 bs) ∧ (panelHeld 16 bs).output.state = .off ∧
      (panelHeld 16 bs).draw.queue = .sceneClear :: List.replicate 15 .sceneClear ∧ (panelHeld 16 bs).draw.engine = .idle ∧
      ((panelHeld 16 bs).link.channel .management).queue = [aFill] ∧
      ((panelHeld 16 bs).link.channel .management).parser.stopped = false ∧
      ((panelHeld 16 bs).link.channel .graphics).queue = [] ∧ (panelHeld 16 bs).sched.backlog = bs) ∧
    aFill.checked = some .panelFill ∧ u8 aFill.payload 8 = 15 ∧ Job.patch 3 ∉ List.replicate 15 Job.sceneClear ∧
    QueuesSound (panelHeld 16 [3]) ∧
    (let s := (panelHeld 16 [3]).setDraw { up.draw with
        engine := .awaitFlip (.patch 3 ⟨0, 0, 20, 20⟩) none
        queue := .panel ⟨⟨3, 0, 2, 1⟩, 5, none, false⟩ :: List.replicate 15 .sceneClear };
      Ready s ∧ (after .jobStart s).draw.queue.length = 15) := by
  refine ⟨?_, ?_, ?_, ?_, ?_, ?_, ?_, ?_, ?_, fun ch => ?_, ?_⟩ <;> try unfold Ready
  all_goals first | decide +kernel | (cases ch <;> decide +kernel)

/-- The part with a job at the head of the queue, and with an engine state. -/
def drawing (q : List Job) (e : Engine) : State := (up.setObjects busy.objects).setDraw { up.draw with queue := q, engine := e }

/-- A started panel job. -/
def aPanel : RunningPanel := ⟨⟨⟨3, 0, 2, 1⟩, 5, none, false⟩, 0x0FF, none⟩

theorem witness_JobsStartAndComplete :
    (∀ j ∈ [Job.panel ⟨⟨3, 0, 2, 1⟩, 5, none, true⟩, .sceneClear, .patch 0, .rebuild (placing 1 0).placements none ⟨0, 0, 20, 20⟩,
        .rebuild (placing 2 0).placements none ⟨0, 0, 20, 20⟩], Ready (drawing [j] .idle)) ∧
    ((busy.objects.slot 1).pixels.isSome = true ∧ (busy.objects.slot 2).pixels = none ∧ up.nav.table.button 0 = none) ∧
    (∀ e ∈ [Engine.drawing (.scene (.rebuild ⟨0, 0, 20, 20⟩) 0xF00 []),
        .drawing (.panel aPanel), .drawing (.sceneClear 0xF00),
        .resyncing (some (⟨0, 0, 20, 20⟩, 0xF00)) none, .awaitFlip (.rebuild ⟨0, 0, 20, 20⟩) (some aPanel),
        .resyncing (some (⟨0, 0, 20, 20⟩, 0xF00)) (some aPanel), .resyncing none (some aPanel)], Ready (drawing [] e)) ∧
    (∀ e ∈ [Engine.awaitFlip (.rebuild ⟨0, 0, 20, 20⟩) none, .resyncing none (some aPanel), .drawing (.sceneClear 0xF00)],
      ∀ j ∈ [Job.panel aPanel.job, .sceneClear], ∀ o ∈ [OutputState.live, .fault], Ready (inState o (drawing [j] e))) ∧
    (let s := (animMenu.setObjects busy.objects).setDraw { up.draw with queue := [.patch 0] };
      Ready s ∧ (s.nav.table.button 0).map (fun b => (patchRect s.sched.scene b).isEmpty) = some false) := by
  unfold Ready; decide +kernel

theorem witness_MasksAreRespected :
    (∀ r ∈ [(⟨0, 0, 1920, 1080⟩ : Rect), ⟨1919, 1079, 1, 1⟩], r.x + r.w ≤ 1920 ∧ r.has 1919 1079 = true ∧ 1919 < 1920) ∧
    Sparse.wf 0 ([(4, 0x525)] : Plane) = true ∧ 4 < 1920 ∧ (0xF00 : BitVec 12).getLsbD 11 = true ∧
    (∀ m, (⟨⟨⟨3, 0, 2, 1⟩, 5, none, true⟩, 0xF00, some 0xF00⟩ : RunningPanel).clear = some m → m.getLsbD 11 = true) := by
  refine ⟨by decide, by decide, by decide, by decide, fun m h => ?_⟩
  cases h; decide

theorem witness_DecodesStartAndComplete :
    (let s := up.setObjects { up.objects.setSlot 5 (.queued 6 2 11 (object261.map byteOf)) with decodeQueue := [5] };
      Ready s ∧ s.objects.decoder = none ∧ s.objects.slot 5 = .queued 6 2 11 (object261.map byteOf)) ∧
    (let s := up.setObjects { up.objects.setSlot 5 (.decoding 6 2 11 (object261.map byteOf)) with decoder := some 5 };
      Ready s ∧ s.objects.slot 5 = .decoding 6 2 11 (object261.map byteOf) ∧ (decodeObject 6 2 (object261.map byteOf)).2 = true) ∧
    (∀ o ∈ [OutputState.draining, .standby, .waking, .fault], Ready (inState o (decoding up))) ∧
    (Ready (decoding up) ∧ (decoding up).objects.decoder ≠ none ∧ (decoding up).objects.decodeQueue ≠ [] ∧
      Ready up ∧ up.objects.decodeQueue = []) ∧
    (let s := up.setObjects { up.objects.setSlot 5 (.decoding 1 1 2 [0, 7, 192]) with decoder := some 5 };
      Ready s ∧ (decodeObject 1 1 [0, 7, 192]).2 = false) ∧
    (∀ c ∈ [((0 : Byte), (0 : Nat)), (63, 63), (64, 64), (127, 127), (128, 128), (191, 191), (192, 192), (193, 193), (254, 254),
      (255, 255)], c.1.toNat = c.2) := by
  unfold Ready; decide +kernel

theorem witness_BlendStaysBetween : 255 ≤ 255 ∧ weight 255 ≤ 256 ∧ blend 256 200 50 = 200 ∧ blend 0 200 50 = 50 := by decide

theorem witness_VideoOutByState : ∀ o ∈ [OutputState.live, .frozen, .off, .draining, .fault],
    let s := up.setMixer { frame := some { latch831 0 0 with output := o } }
    (s.mixer.frame.map fun l => (l.output, decide (1919 < l.width ∧ 1079 < l.height), l.fade)) = some (o, true, 0) ∧
    framesRun State.reset = false ∧ State.reset.pending = [] := by
  decide +kernel

end Sys2Proof.Tests
end

section
/-!
SUPPORT. The proof of the CANCEL statement (R31). The first part holds for any command that takes a head segment; the
second says what a function applied to every slot does to a slot and to the two budgets.
-/

namespace Sys2Proof.Machine

/-! ## Taking a head segment -/

/-- The head segment that can be taken goes to its owner, on the state from which it has been dropped (R10). -/
theorem takeSegment_of_takeable {ch : Channel} {k : SegmentKind} {p : Segment → Bool} {f : Segment → State → State}
    {g : Segment} {s : State} (h : takeable ch k s = some g) (hp : p g = true) :
    takeSegment ch k p f s = f g (dropHead ch s) := by
  simp only [takeSegment, h, hp, if_true]

/-- A command that takes a segment in a Ready state, when its owner leaves no event under way. -/
theorem act_takeSegment_of_takes {ch : Channel} {k : SegmentKind} {p : Segment → Bool} {f : Segment → State → State}
    {g : Segment} {s : State} (h : Takes ch k g s) (hp : p g = true)
    (hf : (f g (dropHead ch s)).underway = .nothing) :
    act (takeSegment ch k p f) s = .next (parsersGoOn (endDrain (f g (dropHead ch s)))) := by
  obtain ⟨hready, htake⟩ := h
  rw [← takeSegment_of_takeable (f := f) htake hp] at hf ⊢
  exact act_of_ready hready hf

/-- No drain ends at a state that agrees with a Ready one on the output state and on what the drain condition reads. -/
theorem endDrain_of_ready {s t : State} (h : Ready s) (hout : t.output = s.output)
    (hdone : drainDone t = drainDone s) : endDrain t = t := by
  obtain ⟨-, -, hdrain⟩ := h
  exact endDrain_of_not (by rwa [hout, hdone])

/-! ## A function applied to every slot -/

/-- A slot, as the element of the underlying vector at its id. -/
theorem ObjectStore.slot_eq_getElem (o : ObjectStore) (k : ObjectId) : o.slot k = o.slots[k.val] := rfl

@[simp] theorem ObjectStore.slot_mapSlots (o : ObjectStore) (f : Slot → Slot) (k : ObjectId) :
    (o.mapSlots f).slot k = f (o.slot k) := by
  simp only [ObjectStore.slot_eq_getElem, ObjectStore.mapSlots, Vector.getElem_mk, List.getElem_toArray,
    List.getElem_map, Vector.getElem_toList]

/-- The slots in the order of their ids. -/
theorem ObjectStore.map_slot_finRange (o : ObjectStore) : (List.finRange 64).map o.slot = o.slots.toList := by
  refine List.ext_getElem ?_ fun i _ _ => ?_
  · rw [List.length_map, List.length_finRange, Vector.length_toList]
  · rw [List.getElem_map, List.getElem_finRange, ObjectStore.slot_eq_getElem, Vector.getElem_toList]
    rfl

/-- A quantity that `f` frees in the elements with `p`, and keeps in the others, loses over a list what the elements with
`p` hold of it. -/
theorem sum_map_add_sum_filter {α : Type} {f : α → α} {p : α → Bool} {q : α → Nat}
    (hfreed : ∀ a, p a = true → q (f a) = 0) (hkept : ∀ a, p a = false → q (f a) = q a) (l : List α) :
    ((l.map f).map q).sum + ((l.filter p).map q).sum = (l.map q).sum := by
  induction l with
  | nil => rfl
  | cons a l ih =>
    cases hp : p a with
    | true =>
      simp only [List.map_cons, List.filter_cons_of_pos hp, List.sum_cons, hfreed a hp]
      omega
    | false =>
      have hp' : ¬ p a = true := by rw [hp]; exact Bool.false_ne_true
      simp only [List.map_cons, List.filter_cons_of_neg hp', List.sum_cons, hkept a hp]
      omega

/-- The same over the Object Store, the slots with `p` named by their ids. -/
theorem ObjectStore.sum_mapSlots_add_freed (o : ObjectStore) {f : Slot → Slot} {p : Slot → Bool} {q : Slot → Nat}
    (hfreed : ∀ v, p v = true → q (f v) = 0) (hkept : ∀ v, p v = false → q (f v) = q v) :
    ((o.mapSlots f).slots.toList.map q).sum +
      (((List.finRange 64).filter fun k => p (o.slot k)).map fun k => q (o.slot k)).sum =
    (o.slots.toList.map q).sum := by
  have hslots : (o.mapSlots f).slots.toList = o.slots.toList.map f := rfl
  have hids : ((List.finRange 64).filter fun k => p (o.slot k)).map (fun k => q (o.slot k)) =
      (o.slots.toList.filter p).map q := by
    rw [← o.map_slot_finRange, List.filter_map, List.map_map]
    rfl
  rw [hslots, hids]
  exact sum_map_add_sum_filter hfreed hkept _

/-! ## CANCEL (R31) -/

theorem exec_cancel : ∀ s : State, exec .cancel s =
    act (takeSegment .graphics .cancel (fun _ => true) fun _ => cancelObject) s := by
  intros; rfl

/-- What becomes of a slot, as R31 tells the cases apart. -/
theorem Slot.afterCancel_eq (v : Slot) : v.afterCancel = match v with
    | .assembling .. => .empty
    | .broken _ => .broken false
    | v => v := by
  cases v <;> rfl

/-- An EMPTY slot holds nothing, so the ASSEMBLING one gives back its charge. -/
theorem Slot.charge_afterCancel_of_assembling (v : Slot) (h : v.isAssembling = true) : v.afterCancel.charge = 0 := by
  cases v with
  | assembling => rfl
  | _ => cases h

/-- A skip mark is not charged, and every other slot is as it was. -/
theorem Slot.charge_afterCancel_of_not (v : Slot) (h : v.isAssembling = false) : v.afterCancel.charge = v.charge := by
  cases v with
  | assembling => cases h
  | _ => rfl

theorem Slot.codedBytes_afterCancel_of_assembling (v : Slot) (h : v.isAssembling = true) :
    v.afterCancel.codedBytes = 0 := by
  cases v with
  | assembling => rfl
  | _ => cases h

theorem Slot.codedBytes_afterCancel_of_not (v : Slot) (h : v.isAssembling = false) :
    v.afterCancel.codedBytes = v.codedBytes := by
  cases v with
  | assembling => cases h
  | _ => rfl

/-- The frame of the owner's part of a CANCEL, with the segment dropped from the Graphics Queue. -/
theorem cancelObject_dropHead_onlyChanges (s : State) :
    OnlyChanges [.link, .objects] s (cancelObject (dropHead .graphics s)) := by
  intro b hb
  cases b with
  | link => simp at hb
  | objects => simp at hb
  | _ => simp [Block.agrees, cancelObject]

/-- A CANCEL taken in a Ready state: its owner's part, and no drain ends, since no decode is abandoned. -/
theorem exec_cancel_of_takes {g : Segment} {s : State} (h : Takes .graphics .cancel g s) :
    exec .cancel s = .next (parsersGoOn (cancelObject (dropHead .graphics s))) := by
  have hready : Ready s := h.1
  have hidle : (cancelObject (dropHead .graphics s)).underway = .nothing := by
    simpa [cancelObject] using hready.1
  have hdrain : endDrain (cancelObject (dropHead .graphics s)) = cancelObject (dropHead .graphics s) :=
    endDrain_of_ready hready (by simp [cancelObject])
      (drainDone_congr (by simp [cancelObject]) (by simp [cancelObject])
        (by simp [cancelObject, ObjectStore.mapSlots]))
  rw [exec_cancel, act_takeSegment_of_takes h rfl hidle, hdrain]

/-- Settles O25: the state is the owner's part on the state without the segment, and the two budgets are sums over the
slots that lose exactly what the ASSEMBLING object held. -/
theorem cancelDropsAssembling : Obligations.CancelDropsAssembling := by
  unfold Obligations.CancelDropsAssembling
  intro g s h
  have hobjects : (cancelObject (dropHead .graphics s)).objects = s.objects.mapSlots Slot.afterCancel := by
    simp [cancelObject]
  refine ⟨cancelObject (dropHead .graphics s), exec_cancel_of_takes h, cancelObject_dropHead_onlyChanges s, rfl, ?_⟩
  rw [hobjects]
  refine ⟨fun k => ?slot, rfl, rfl, rfl, ?charge, ?coded⟩
  case slot => exact (s.objects.slot_mapSlots _ k).trans (Slot.afterCancel_eq _)
  case charge =>
    exact s.objects.sum_mapSlots_add_freed Slot.charge_afterCancel_of_assembling Slot.charge_afterCancel_of_not
  case coded =>
    exact s.objects.sum_mapSlots_add_freed Slot.codedBytes_afterCancel_of_assembling Slot.codedBytes_afterCancel_of_not

end Sys2Proof.Machine
end

section
/-!
SUPPORT. The proof of the pan statement (R133). The one fact about truncation is that a coordinate stays between its
start and its end; it is shown for a coordinate that does not decrease, and carried to the others by the mirror image.
The fields of the view follow from it: no coordinate of a pan is negative, so `Int.toNat` loses nothing.
-/

namespace Sys2Proof.Machine

/-! ## One coordinate of a pan -/

/-- A pan to the left or upwards moves by the same amounts as the mirror-image pan (R133). -/
theorem panValue_mirror (a b i n : Nat) : panValue b a i n = a + b - panValue a b i n := by
  have hneg : ((a : Int) - b) * i = -(((b : Int) - a) * i) := by
    rw [← Int.neg_mul, Int.neg_sub]
  simp only [panValue, hneg, Int.neg_tdiv]
  omega

@[simp] theorem panValue_zero (a b n : Nat) : panValue a b 0 n = a := by
  simp [panValue]

theorem panValue_last (a b : Nat) {n : Nat} (hn : 1 ≤ n) : panValue a b n n = b := by
  have hn0 : (n : Int) ≠ 0 := by omega
  rw [panValue, Int.mul_tdiv_cancel _ hn0]
  omega

/-- To the right or downwards the quotient is the one of `Nat`. -/
theorem panValue_add (a d i n : Nat) : panValue a (a + d) i n = a + (d * i / n : Nat) := by
  have hdist : ((a + d : Nat) : Int) - a = d := by omega
  rw [panValue, hdist, ← Int.natCast_mul, Int.ofNat_tdiv]

/-- The distance moved is at most the whole one, since i is at most N. -/
theorem panValue_mem_of_le {a b i n : Nat} (hab : a ≤ b) (hin : i ≤ n) :
    (a : Int) ≤ panValue a b i n ∧ panValue a b i n ≤ b := by
  obtain ⟨d, rfl⟩ := Nat.exists_eq_add_of_le hab
  have hmoved : d * i / n ≤ d := Nat.div_le_of_le_mul (Nat.mul_comm n d ▸ Nat.mul_le_mul_left d hin)
  rw [panValue_add]
  generalize d * i / n = moved at hmoved ⊢
  omega

/-- A coordinate stays between its start and its end, whichever is greater. -/
theorem panValue_mem (a b : Nat) {i n : Nat} (hin : i ≤ n) :
    min (a : Int) b ≤ panValue a b i n ∧ panValue a b i n ≤ max (a : Int) b := by
  rcases Nat.le_total a b with hab | hba
  · have hmem := panValue_mem_of_le hab hin
    omega
  · have hmem := panValue_mem_of_le hba hin
    rw [panValue_mirror b a]
    omega

theorem panValue_nonneg (a b : Nat) {i n : Nat} (hin : i ≤ n) : 0 ≤ panValue a b i n := by
  have hmem := panValue_mem a b hin
  omega

/-! ## The view -/

/-- A coordinate that is not negative, clamped into a captured size in `Nat` as in `Int`. -/
theorem natCast_min_toNat_pred {v : Int} {c : Nat} (hv : 0 ≤ v) (hc : 1 ≤ c) :
    ((min v.toNat (c - 1) : Nat) : Int) = min v ((c : Int) - 1) := by
  omega

theorem panView_wx_cast (p : PanRecord) {cw i : Nat} (ch : Nat) (hi : i ≤ p.n) (hcw : 1 ≤ cw) :
    ((panView p cw ch i).wx : Int) = min (panValue p.x0 p.x1 i p.n) ((cw : Int) - 1) :=
  natCast_min_toNat_pred (panValue_nonneg _ _ hi) hcw

theorem panView_wy_cast (p : PanRecord) {ch i : Nat} (cw : Nat) (hi : i ≤ p.n) (hch : 1 ≤ ch) :
    ((panView p cw ch i).wy : Int) = min (panValue p.y0 p.y1 i p.n) ((ch : Int) - 1) :=
  natCast_min_toNat_pred (panValue_nonneg _ _ hi) hch

theorem panView_z_cast (p : PanRecord) {i : Nat} (cw ch : Nat) (hi : i ≤ p.n) :
    ((panView p cw ch i).z : Int) = panValue p.zs p.ze i p.n :=
  Int.toNat_of_nonneg (panValue_nonneg _ _ hi)

/-- Step 0 is the start corner at the zoom in use. -/
theorem panView_zero (p : PanRecord) (cw ch : Nat) :
    panView p cw ch 0 = { wx := min p.x0 (cw - 1), wy := min p.y0 (ch - 1), z := p.zs } := by
  simp [panView]

/-- Step N is the end corner at the end zoom. -/
theorem panView_last (p : PanRecord) (cw ch : Nat) (hn : 1 ≤ p.n) :
    panView p cw ch p.n = { wx := min p.x1 (cw - 1), wy := min p.y1 (ch - 1), z := p.ze } := by
  simp [panView, panValue_last _ _ hn]

/-- The zoom lies between the zoom in use and the end zoom. -/
theorem panView_z_mem (p : PanRecord) {i : Nat} (cw ch : Nat) (hi : i ≤ p.n) :
    min p.zs p.ze ≤ (panView p cw ch i).z ∧ (panView p cw ch i).z ≤ max p.zs p.ze := by
  have hmem := panValue_mem p.zs p.ze hi
  rw [← panView_z_cast p cw ch hi] at hmem
  omega

/-- The captured size of a pan is that of the still buffer shown. -/
theorem Still.viewAt_of_shown {st : Still} {b : Fin 2} (h : st.shown = .still b) (p : PanRecord) (i : Nat) :
    st.viewAt p i = panView p (st.buffers.get b).size.1 (st.buffers.get b).size.2 i := by
  simp only [Still.viewAt, Still.shownSize, h]

/-- Settles O41: the formulas are the fields of the view, read as integers because no coordinate is negative. -/
theorem panViewFormula : Obligations.PanViewFormula := by
  unfold Obligations.PanViewFormula
  refine ⟨fun _ p _ i h => Still.viewAt_of_shown h p i, by decide, by decide, ?_⟩
  intro p cw ch i hn hi hcw hch
  exact ⟨panView_wx_cast p ch hi hcw, panView_wy_cast p cw hi hch, panView_z_cast p cw ch hi,
    panView_zero p cw ch, panView_last p cw ch hn, panView_z_mem p cw ch hi⟩

end Sys2Proof.Machine
end

section
/-!
SUPPORT. The proof of the blend statement (R151). A blend does not decrease in either of its two values, and a value
blended over itself is that value; a blend of two values therefore lies between the blends of their minimum and of their
maximum, which are the minimum and the maximum.
-/

namespace Sys2Proof.Machine

/-! ## The weight -/

theorem weight_eq (a : Nat) : weight a = a + a / 128 := rfl

/-- The weight of a byte is a share of 256, as `blend` takes it. -/
theorem weight_le (a : Nat) (ha : a ≤ 255) : weight a ≤ 256 := by
  rw [weight_eq]
  omega

/-! ## One component -/

theorem blend_eq (w top under : Nat) : blend w top under = (top * w + under * (256 - w) + 128) / 256 := rfl

/-- With weight 0 the value below stays. -/
theorem blend_weight_zero (top under : Nat) : blend 0 top under = under := by
  rw [blend_eq]
  omega

/-- With the full weight the value on top hides the one below. -/
theorem blend_weight_full (top under : Nat) : blend 256 top under = top := by
  rw [blend_eq]
  omega

/-- The two weights add up to 256, and the 128 added for rounding is below the divisor. -/
theorem blend_self {w : Nat} (hw : w ≤ 256) (v : Nat) : blend w v v = v := by
  have hweights : v * w + v * (256 - w) = v * 256 := by rw [← Nat.mul_add, Nat.add_sub_of_le hw]
  rw [blend_eq, hweights]
  omega

theorem blend_mono (w : Nat) {top top' under under' : Nat} (htop : top ≤ top') (hunder : under ≤ under') :
    blend w top under ≤ blend w top' under' := by
  have htops : top * w ≤ top' * w := Nat.mul_le_mul_right w htop
  have hunders : under * (256 - w) ≤ under' * (256 - w) := Nat.mul_le_mul_right (256 - w) hunder
  exact Nat.div_le_div_right (Nat.add_le_add_right (Nat.add_le_add htops hunders) 128)

theorem min_le_blend {w : Nat} (hw : w ≤ 256) (top under : Nat) : min top under ≤ blend w top under :=
  calc min top under = blend w (min top under) (min top under) := (blend_self hw _).symm
    _ ≤ blend w top under := blend_mono w (Nat.min_le_left _ _) (Nat.min_le_right _ _)

theorem blend_le_max {w : Nat} (hw : w ≤ 256) (top under : Nat) : blend w top under ≤ max top under :=
  calc blend w top under ≤ blend w (max top under) (max top under) :=
        blend_mono w (Nat.le_max_left _ _) (Nat.le_max_right _ _)
    _ = max top under := blend_self hw _

/-- A blend of two bytes is at most the greater one, so the byte made of it loses nothing. -/
theorem toNat_blendByte {w : Nat} (hw : w ≤ 256) (top under : Byte) :
    (blendByte w top under).toNat = blend w top.toNat under.toNat := by
  have hmax : max top.toNat under.toNat < 2 ^ 8 := Nat.max_lt.mpr ⟨top.isLt, under.isLt⟩
  have hbyte : blend w top.toNat under.toNat < 2 ^ 8 := Nat.lt_of_le_of_lt (blend_le_max hw _ _) hmax
  exact (BitVec.toNat_ofNat _ 8).trans (Nat.mod_eq_of_lt hbyte)

/-! ## The layers -/

/-- The order of the layers, from the background at the bottom to the panel layer on top (R146 to R150). -/
theorem composed_eq (l : Latch) (live : Sparse Entry) (video : Option Colour) (x y : Nat) :
    composed l live video x y =
      panelLayer l x y (sceneLayer l live x y (stillLayer l (background l video) x y)) := rfl

/-- Settles O59: the range comes from `blend_mono` and `blend_self`, and the rest from the definitions. -/
theorem blendStaysBetween : Obligations.BlendStaysBetween := by
  unfold Obligations.BlendStaysBetween
  exact ⟨weight_eq, by decide, by decide, by decide, by decide, weight_le, blend_eq,
    fun _ top under hw => ⟨min_le_blend hw top under, blend_le_max hw top under⟩,
    fun top under => ⟨blend_weight_zero top under, blend_weight_full top under⟩,
    fun _ top under hw => toNat_blendByte hw top under, composed_eq⟩

end Sys2Proof.Machine
end

section
/-!
SUPPORT. The proof of the statement on the plane requests in LIVE, FROZEN and OFF (R160). The four commands are one: each
takes the PLANE_REQ of its tag and hands its target to Output Control, whose judgement is written as a function of the
fields of Output Control alone. No drain ends, since the judgement leaves the output state as it is.
-/

namespace Sys2Proof.Machine

/-! ## The four commands of a PLANE_REQ with a target -/

/-- Each command with the tag of its PLANE_REQ and the target it asks for. -/
def planeRequestTable : List (Instr × Byte × Target) :=
  [(.planeReqLive, 0, .live), (.planeReqFreeze, 1, .frozen), (.planeReqOff, 2, .off), (.planeReqStandby, 3, .standby)]

theorem exec_planeReq {c : Instr} {tag : Byte} {want : Target} (hc : (c, tag, want) ∈ planeRequestTable) (s : State) :
    exec c s =
      act (takeSegment .management .planeReq (fun g => g.header.tag == tag) fun _ => requestPlane want) s := by
  simp only [planeRequestTable, List.mem_cons, List.not_mem_nil, or_false, Prod.mk.injEq] at hc
  obtain ⟨rfl, rfl, rfl⟩ | ⟨rfl, rfl, rfl⟩ | ⟨rfl, rfl, rfl⟩ | ⟨rfl, rfl, rfl⟩ := hc
  all_goals rfl

/-- No request begins an event. -/
theorem requestPlane_underway (want : Target) (s : State) : (requestPlane want s).underway = s.underway := by
  unfold requestPlane
  split
  case h_1 | h_2 | h_3 =>
    split
    · rfl
    · split <;> rfl
  case h_4 =>
    split
    · rfl
    · exact setOutputState_underway s want.state
  case h_5 | h_6 | h_7 => rfl

/-- A request taken in a Ready state, in any output state. -/
theorem exec_planeReq_of_takes {c : Instr} {tag : Byte} {want : Target} (hc : (c, tag, want) ∈ planeRequestTable)
    {g : Segment} {s : State} (h : Takes .management .planeReq g s) (htag : g.header.tag = tag) :
    exec c s = .next (parsersGoOn (endDrain (requestPlane want (dropHead .management s)))) := by
  have hidle : (requestPlane want (dropHead .management s)).underway = .nothing := by
    obtain ⟨⟨hnothing, -, -⟩, -⟩ := h
    rw [requestPlane_underway, dropHead_underway, hnothing]
  exact (exec_planeReq hc s).trans (act_takeSegment_of_takes h (beq_iff_eq.mpr htag) hidle)

/-! ## The judgement (R160) -/

/-- Output Control after a request in LIVE, FROZEN or OFF: IGNORED where the part is headed already, and otherwise ACCEPTED,
with a return to the present output state as the end of the pending target. -/
def Output.judged (o : Output) (want : Target) : Output :=
  if want.state = o.headedFor then { o with lastRequest := .ignored }
  else if want.state = o.state then { o with target := none, lastRequest := .accepted }
  else { o with target := some want, lastRequest := .accepted }

theorem Output.judged_state (o : Output) (want : Target) : (o.judged want).state = o.state := by
  unfold Output.judged
  split
  · rfl
  · split <;> rfl

/-- In the three states that judge a request, the owner's part changes Output Control alone. -/
theorem requestPlane_of_judging {s : State}
    (hstate : s.output.state = .live ∨ s.output.state = .frozen ∨ s.output.state = .off) (want : Target) :
    requestPlane want s = s.setOutput (s.output.judged want) := by
  have hjudges : requestPlane want s =
      if want.state = s.output.headedFor then setRequestResult .ignored s
      else if want.state = s.output.state then setRequestResult .accepted (setTarget none s)
      else setRequestResult .accepted (setTarget (some want) s) := by
    obtain h | h | h := hstate <;> simp only [requestPlane, h]
  rw [hjudges, Output.judged]
  split
  · rfl
  · split <;> rfl

/-- Settles O32: the judgement is the table of R160, with the state the part is headed for written out. -/
theorem planeRequests : Obligations.PlaneRequests := by
  unfold Obligations.PlaneRequests
  intro c tag want g s hc h htag hstate
  have howner : requestPlane want (dropHead .management s) =
      (dropHead .management s).setOutput (s.output.judged want) := by
    rw [requestPlane_of_judging (by rwa [dropHead_output]), dropHead_output]
  have hdrain : ((dropHead .management s).setOutput (s.output.judged want)).output.state ≠ .draining := by
    rw [State.setOutput_output, Output.judged_state]
    obtain h | h | h := hstate <;> rw [h] <;> decide
  rw [exec_planeReq_of_takes hc h htag, howner, endDrain_of_not fun hdraining => absurd hdraining hdrain]
  rfl

end Sys2Proof.Machine
end
